-- ==== Sys2Proof/Word.lean ====
section
/-! DEFINITION. The two word widths of the core (00_scope.md R6: data 8 bits, addresses 16 bits; notation R7). Their
arithmetic is `BitVec`'s own, so every sum, difference and register write wraps as 00_scope.md R9 says. -/
namespace Sys2Proof

/-- An 8-bit value: a register, a memory byte, an opcode byte (00_scope.md R6, R7). -/
abbrev Byte := BitVec 8

/-- A 16-bit value: an address, `PC`, `SP`, a register pair (00_scope.md R6, R7). -/
abbrev Word := BitVec 16

end Sys2Proof
end

