-- ==== Sys2Proof/Config.lean ====
section
/-! DEFINITION. What the spec fixes for one instance of the block: the numeric parameters of 00_scope.md R6, each at the
value R6 gives it, and the two values the spec leaves open and the model names (RESET_STATE, log 1; the byte an unlisted
address reads as, log 2). The other parameters of R6 are no constants here: OPCODE_MAP is the decoder (log 11),
HALT_STOP_POLICY = noop and EI_DELAY = 0 are the meanings of HALT, STOP and EI (logs 6 and 10), CLOCK_W is the counters'
type (log 18), BUS is `Config.busAnswer` with the bus in State (log 3), HOST_MOVES is Machine/Outside.lean (log 19). -/
namespace Sys2Proof

/-- PREFIX_BYTE: the base opcode that selects the extended table (00_scope.md R6; 30_encoding.md R81). -/
def Config.prefixByte : Byte := 0xCB#8

/-- UNUSED_T: the cost an unused opcode reports (00_scope.md R6; 45_system_unused.md R266). UNVERIFIED, log 7. -/
def Config.unusedT : Nat := 4

/-- BIT_HL_T: the cost of `BIT n,[HL]` (00_scope.md R6; 46_extended_cb.md R281). UNVERIFIED, log 9. -/
def Config.bitHLT : Nat := 16

/-- The two values of F9_SEMANTICS, the direction of opcode 0xF9 (00_scope.md R6; 41_loads.md R151). -/
inductive Config.F9Semantics where
  /-- The source's row: HL takes the value of SP. -/
  | doc
  /-- The alternative: SP takes the value of HL. -/
  | hw
  deriving DecidableEq, Repr

/-- F9_SEMANTICS: the default of 00_scope.md R6, the source's direction (90_conflicts.md C7). UNVERIFIED, log 8. -/
def Config.f9Semantics : Config.F9Semantics := .doc

/-- RESET_STATE: one value for every field of the register file (10_state.md R34). `lastClockM` is no field of its own:
R34 gives it as `lastClockT / 4`. -/
structure Config.ResetRecord where
  a : Byte
  b : Byte
  c : Byte
  d : Byte
  e : Byte
  f : Byte
  h : Byte
  l : Byte
  pc : Word
  sp : Word
  ime : Bool
  lastClockT : Nat
  deriving DecidableEq, Repr

/-- What R34 asks of RESET_STATE: the invariants of 10_state.md R31. -/
abbrev Config.ResetRecord.Legal (r : Config.ResetRecord) : Prop :=
  r.f &&& 0x0F#8 = 0#8 ∧ r.lastClockT % 4 = 0

/-- The model's RESET_STATE. DESIGN CHOICE, log 1: the spec leaves every value open; the model takes zero for each. -/
def Config.resetRecord : Config.ResetRecord :=
  { a := 0#8, b := 0#8, c := 0#8, d := 0#8, e := 0#8, f := 0#8, h := 0#8, l := 0#8,
    pc := 0#16, sp := 0#16, ime := false, lastClockT := 0 }

/-- What an address that memory does not list reads as. DESIGN CHOICE, log 2: the spec gives memory no contents at reset
(93_implementation_defined.md U3) and no read can fail (20_memory.md R51). -/
def Config.unwrittenByte : Byte := 0#8

/-- One byte access on the bus port (20_memory.md R51, R58): a read with the byte the bus answered, or a write with the
byte presented to the bus, whether or not the bus took it. -/
inductive Machine.Access where
  | read (a : Word) (v : Byte)
  | write (a : Word) (v : Byte)
  deriving DecidableEq, Repr

/-- BUS, the open oracle of 00_scope.md R6 (20_memory.md R57; 92_eei_decisions.md D22): what the bus answers to a read of an
address, given every earlier access it has seen, newest first. A FREE VALUE (log 3): it has no body, so a claim holds for
every bus. -/
opaque Config.busAnswer : List Machine.Access → Word → Byte

end Sys2Proof
end

