-- ==== Sys2Proof/Syntax.lean ====
section
/-! DEFINITION. The instructions: the operand names of 30_encoding.md R83 to R89, one constructor of `Instr` per row of
spec/opcode_table.json (256 base opcodes, 256 extended opcodes), and `Form`, the same instructions grouped by the fields of
their opcode byte (R82). A constructor's argument is the instruction's operand byte or little-endian word (R90). -/
namespace Sys2Proof

/-- The seven 8-bit registers the `r` field names (30_encoding.md R83); `F` has no number. -/
inductive Reg8 where
  | B | C | D | E | H | L | A
  deriving DecidableEq, Repr

/-- The `r` field (30_encoding.md R83): a register, or the byte in memory at address `HL`. -/
inductive Opnd8 where
  | reg (r : Reg8)
  | atHL
  deriving DecidableEq, Repr

/-- The `rr` field (30_encoding.md R84). -/
inductive Pair where
  | BC | DE | HL | SP
  deriving DecidableEq, Repr

/-- The stack-pair field (30_encoding.md R85). -/
inductive StackPair where
  | BC | DE | HL | AF
  deriving DecidableEq, Repr

/-- The condition field (30_encoding.md R86). -/
inductive Cond where
  | NZ | Z | NC | C
  deriving DecidableEq, Repr

/-- The ALU operation field (30_encoding.md R87). -/
inductive AluOp where
  | add | adc | sub | sbc | and | xor | or | cp
  deriving DecidableEq, Repr

/-- The rotate and shift field of the extended table (30_encoding.md R89). -/
inductive RotOp where
  | rlc | rrc | rl | rr | sla | sra | swap | srl
  deriving DecidableEq, Repr

/-- The addressing modes of the loads and stores of `A` (41_loads.md, the effective-address summary). -/
inductive AccMode where
  | atBC
  | atDE
  | atHLinc
  | atHLdec
  | atA16 (a16 : Word)
  | highA8 (a8 : Byte)
  | highC
  deriving DecidableEq, Repr

/-- The eleven unused base opcodes (30_encoding.md R93), each named by its byte. -/
inductive UnusedOp where
  | xD3 | xDB | xDD | xE3 | xE4 | xEB | xEC | xED | xF4 | xFC | xFD
  deriving DecidableEq, Repr

/-- The instruction forms of the spec, one per family of rules, with the opcode's fields as arguments. -/
inductive Form where
  | ldRR (d r : Reg8)
  | ldRI (d : Reg8) (d8 : Byte)
  | ldMI (d8 : Byte)
  | ldPI (rr : Pair) (d16 : Word)
  | ldRM (d : Reg8)
  | ldMR (r : Reg8)
  | stAcc (m : AccMode)
  | ldAcc (m : AccMode)
  | stSP (a16 : Word)
  | ldHLSP
  | ldHLSPr8 (r8 : Byte)
  | addSPr8 (r8 : Byte)
  | inc8 (o : Opnd8)
  | dec8 (o : Opnd8)
  | alu (op : AluOp) (o : Opnd8)
  | aluI (op : AluOp) (d8 : Byte)
  | daa
  | cpl
  | scf
  | ccf
  | rlca
  | rla
  | rrca
  | rra
  | inc16 (rr : Pair)
  | dec16 (rr : Pair)
  | addHL (rr : Pair)
  | push (rr : StackPair)
  | pop (rr : StackPair)
  | jp (a16 : Word)
  | jpHL
  | jpC (cc : Cond) (a16 : Word)
  | jr (r8 : Byte)
  | jrC (cc : Cond) (r8 : Byte)
  | call (a16 : Word)
  | callC (cc : Cond) (a16 : Word)
  | ret
  | retC (cc : Cond)
  | reti
  | rst (t : Fin 8)
  | ei
  | di
  | nop
  | halt
  | stop
  | unused (u : UnusedOp)
  | prefixCB (op2 : Byte)
  | rot (op : RotOp) (o : Opnd8)
  | bit (n : Fin 8) (o : Opnd8)
  | res (n : Fin 8) (o : Opnd8)
  | set (n : Fin 8) (o : Opnd8)
  deriving DecidableEq, Repr

/-- The instructions: one constructor per row of spec/opcode_table.json. The rows with an operand stand first (the compiler
numbers the constructors that carry data in one byte), then the rest of the base table, then the extended table. -/
inductive Instr where
  /-- `LD BC,d16`, 01 R133. -/
  | ld_BC_d16 (d16 : Word)
  /-- `LD B,d8`, 06 R131. -/
  | ld_B_d8 (d8 : Byte)
  /-- `LD [a16],SP`, 08 R146. -/
  | ld_atA16_SP (a16 : Word)
  /-- `LD C,d8`, 0E R131. -/
  | ld_C_d8 (d8 : Byte)
  /-- `LD DE,d16`, 11 R133. -/
  | ld_DE_d16 (d16 : Word)
  /-- `LD D,d8`, 16 R131. -/
  | ld_D_d8 (d8 : Byte)
  /-- `JR r8`, 18 R235. -/
  | jr_r8 (r8 : Byte)
  /-- `LD E,d8`, 1E R131. -/
  | ld_E_d8 (d8 : Byte)
  /-- `JR NZ,r8`, 20 R236. -/
  | jr_NZ_r8 (r8 : Byte)
  /-- `LD HL,d16`, 21 R133. -/
  | ld_HL_d16 (d16 : Word)
  /-- `LD H,d8`, 26 R131. -/
  | ld_H_d8 (d8 : Byte)
  /-- `JR Z,r8`, 28 R236. -/
  | jr_Z_r8 (r8 : Byte)
  /-- `LD L,d8`, 2E R131. -/
  | ld_L_d8 (d8 : Byte)
  /-- `JR NC,r8`, 30 R236. -/
  | jr_NC_r8 (r8 : Byte)
  /-- `LD SP,d16`, 31 R133. -/
  | ld_SP_d16 (d16 : Word)
  /-- `LD [HL],d8`, 36 R132. -/
  | ld_atHL_d8 (d8 : Byte)
  /-- `JR C,r8`, 38 R236. -/
  | jr_C_r8 (r8 : Byte)
  /-- `LD A,d8`, 3E R131. -/
  | ld_A_d8 (d8 : Byte)
  /-- `JP NZ,a16`, C2 R234. -/
  | jp_NZ_a16 (a16 : Word)
  /-- `JP a16`, C3 R232. -/
  | jp_a16 (a16 : Word)
  /-- `CALL NZ,a16`, C4 R238. -/
  | call_NZ_a16 (a16 : Word)
  /-- `ADD A,d8`, C6 R179. -/
  | add_A_d8 (d8 : Byte)
  /-- `JP Z,a16`, CA R234. -/
  | jp_Z_a16 (a16 : Word)
  /-- `the 0xCB entry`, CB R265. -/
  | prefixCB (op2 : Byte)
  /-- `CALL Z,a16`, CC R238. -/
  | call_Z_a16 (a16 : Word)
  /-- `CALL a16`, CD R237. -/
  | call_a16 (a16 : Word)
  /-- `ADC A,d8`, CE R182. -/
  | adc_A_d8 (d8 : Byte)
  /-- `JP NC,a16`, D2 R234. -/
  | jp_NC_a16 (a16 : Word)
  /-- `CALL NC,a16`, D4 R238. -/
  | call_NC_a16 (a16 : Word)
  /-- `SUB A,d8`, D6 R185. -/
  | sub_A_d8 (d8 : Byte)
  /-- `JP C,a16`, DA R234. -/
  | jp_C_a16 (a16 : Word)
  /-- `CALL C,a16`, DC R238. -/
  | call_C_a16 (a16 : Word)
  /-- `SBC A,d8`, DE R191. -/
  | sbc_A_d8 (d8 : Byte)
  /-- `LD [$FF00+a8],A`, E0 R147. -/
  | ld_highA8_A (a8 : Byte)
  /-- `AND A,d8`, E6 R194. -/
  | and_A_d8 (d8 : Byte)
  /-- `ADD SP,r8`, E8 R212. -/
  | add_SP_r8 (r8 : Byte)
  /-- `LD [a16],A`, EA R144. -/
  | ld_atA16_A (a16 : Word)
  /-- `XOR A,d8`, EE R200. -/
  | xor_A_d8 (d8 : Byte)
  /-- `LD A,[$FF00+a8]`, F0 R148. -/
  | ld_A_highA8 (a8 : Byte)
  /-- `OR A,d8`, F6 R197. -/
  | or_A_d8 (d8 : Byte)
  /-- `LD HL,SP+r8`, F8 R211. -/
  | ld_HL_SPr8 (r8 : Byte)
  /-- `LD A,[a16]`, FA R145. -/
  | ld_A_atA16 (a16 : Word)
  /-- `CP A,d8`, FE R188. -/
  | cp_A_d8 (d8 : Byte)
  /-- `NOP`, 00 R262. -/
  | nop
  /-- `LD [BC],A`, 02 R136. -/
  | ld_atBC_A
  /-- `INC BC`, 03 R213. -/
  | inc_BC
  /-- `INC B`, 04 R173. -/
  | inc_B
  /-- `DEC B`, 05 R174. -/
  | dec_B
  /-- `RLCA`, 07 R205. -/
  | rlca
  /-- `ADD HL,BC`, 09 R215. -/
  | add_HL_BC
  /-- `LD A,[BC]`, 0A R138. -/
  | ld_A_atBC
  /-- `DEC BC`, 0B R214. -/
  | dec_BC
  /-- `INC C`, 0C R173. -/
  | inc_C
  /-- `DEC C`, 0D R174. -/
  | dec_C
  /-- `RRCA`, 0F R207. -/
  | rrca
  /-- `STOP`, 10 R264. -/
  | stop
  /-- `LD [DE],A`, 12 R137. -/
  | ld_atDE_A
  /-- `INC DE`, 13 R213. -/
  | inc_DE
  /-- `INC D`, 14 R173. -/
  | inc_D
  /-- `DEC D`, 15 R174. -/
  | dec_D
  /-- `RLA`, 17 R206. -/
  | rla
  /-- `ADD HL,DE`, 19 R215. -/
  | add_HL_DE
  /-- `LD A,[DE]`, 1A R139. -/
  | ld_A_atDE
  /-- `DEC DE`, 1B R214. -/
  | dec_DE
  /-- `INC E`, 1C R173. -/
  | inc_E
  /-- `DEC E`, 1D R174. -/
  | dec_E
  /-- `RRA`, 1F R208. -/
  | rra
  /-- `LD [HL+],A`, 22 R140. -/
  | ld_atHLinc_A
  /-- `INC HL`, 23 R213. -/
  | inc_HL
  /-- `INC H`, 24 R173. -/
  | inc_H
  /-- `DEC H`, 25 R174. -/
  | dec_H
  /-- `DAA`, 27 R201. -/
  | daa
  /-- `ADD HL,HL`, 29 R215. -/
  | add_HL_HL
  /-- `LD A,[HL+]`, 2A R141. -/
  | ld_A_atHLinc
  /-- `DEC HL`, 2B R214. -/
  | dec_HL
  /-- `INC L`, 2C R173. -/
  | inc_L
  /-- `DEC L`, 2D R174. -/
  | dec_L
  /-- `CPL`, 2F R202. -/
  | cpl
  /-- `LD [HL-],A`, 32 R142. -/
  | ld_atHLdec_A
  /-- `INC SP`, 33 R213. -/
  | inc_SP
  /-- `INC [HL]`, 34 R175. -/
  | inc_atHL
  /-- `DEC [HL]`, 35 R176. -/
  | dec_atHL
  /-- `SCF`, 37 R203. -/
  | scf
  /-- `ADD HL,SP`, 39 R215. -/
  | add_HL_SP
  /-- `LD A,[HL-]`, 3A R143. -/
  | ld_A_atHLdec
  /-- `DEC SP`, 3B R214. -/
  | dec_SP
  /-- `INC A`, 3C R173. -/
  | inc_A
  /-- `DEC A`, 3D R174. -/
  | dec_A
  /-- `CCF`, 3F R204. -/
  | ccf
  /-- `LD B,B`, 40 R130. -/
  | ld_B_B
  /-- `LD B,C`, 41 R130. -/
  | ld_B_C
  /-- `LD B,D`, 42 R130. -/
  | ld_B_D
  /-- `LD B,E`, 43 R130. -/
  | ld_B_E
  /-- `LD B,H`, 44 R130. -/
  | ld_B_H
  /-- `LD B,L`, 45 R130. -/
  | ld_B_L
  /-- `LD B,[HL]`, 46 R134. -/
  | ld_B_atHL
  /-- `LD B,A`, 47 R130. -/
  | ld_B_A
  /-- `LD C,B`, 48 R130. -/
  | ld_C_B
  /-- `LD C,C`, 49 R130. -/
  | ld_C_C
  /-- `LD C,D`, 4A R130. -/
  | ld_C_D
  /-- `LD C,E`, 4B R130. -/
  | ld_C_E
  /-- `LD C,H`, 4C R130. -/
  | ld_C_H
  /-- `LD C,L`, 4D R130. -/
  | ld_C_L
  /-- `LD C,[HL]`, 4E R134. -/
  | ld_C_atHL
  /-- `LD C,A`, 4F R130. -/
  | ld_C_A
  /-- `LD D,B`, 50 R130. -/
  | ld_D_B
  /-- `LD D,C`, 51 R130. -/
  | ld_D_C
  /-- `LD D,D`, 52 R130. -/
  | ld_D_D
  /-- `LD D,E`, 53 R130. -/
  | ld_D_E
  /-- `LD D,H`, 54 R130. -/
  | ld_D_H
  /-- `LD D,L`, 55 R130. -/
  | ld_D_L
  /-- `LD D,[HL]`, 56 R134. -/
  | ld_D_atHL
  /-- `LD D,A`, 57 R130. -/
  | ld_D_A
  /-- `LD E,B`, 58 R130. -/
  | ld_E_B
  /-- `LD E,C`, 59 R130. -/
  | ld_E_C
  /-- `LD E,D`, 5A R130. -/
  | ld_E_D
  /-- `LD E,E`, 5B R130. -/
  | ld_E_E
  /-- `LD E,H`, 5C R130. -/
  | ld_E_H
  /-- `LD E,L`, 5D R130. -/
  | ld_E_L
  /-- `LD E,[HL]`, 5E R134. -/
  | ld_E_atHL
  /-- `LD E,A`, 5F R130. -/
  | ld_E_A
  /-- `LD H,B`, 60 R130. -/
  | ld_H_B
  /-- `LD H,C`, 61 R130. -/
  | ld_H_C
  /-- `LD H,D`, 62 R130. -/
  | ld_H_D
  /-- `LD H,E`, 63 R130. -/
  | ld_H_E
  /-- `LD H,H`, 64 R130. -/
  | ld_H_H
  /-- `LD H,L`, 65 R130. -/
  | ld_H_L
  /-- `LD H,[HL]`, 66 R134. -/
  | ld_H_atHL
  /-- `LD H,A`, 67 R130. -/
  | ld_H_A
  /-- `LD L,B`, 68 R130. -/
  | ld_L_B
  /-- `LD L,C`, 69 R130. -/
  | ld_L_C
  /-- `LD L,D`, 6A R130. -/
  | ld_L_D
  /-- `LD L,E`, 6B R130. -/
  | ld_L_E
  /-- `LD L,H`, 6C R130. -/
  | ld_L_H
  /-- `LD L,L`, 6D R130. -/
  | ld_L_L
  /-- `LD L,[HL]`, 6E R134. -/
  | ld_L_atHL
  /-- `LD L,A`, 6F R130. -/
  | ld_L_A
  /-- `LD [HL],B`, 70 R135. -/
  | ld_atHL_B
  /-- `LD [HL],C`, 71 R135. -/
  | ld_atHL_C
  /-- `LD [HL],D`, 72 R135. -/
  | ld_atHL_D
  /-- `LD [HL],E`, 73 R135. -/
  | ld_atHL_E
  /-- `LD [HL],H`, 74 R135. -/
  | ld_atHL_H
  /-- `LD [HL],L`, 75 R135. -/
  | ld_atHL_L
  /-- `HALT`, 76 R263. -/
  | halt
  /-- `LD [HL],A`, 77 R135. -/
  | ld_atHL_A
  /-- `LD A,B`, 78 R130. -/
  | ld_A_B
  /-- `LD A,C`, 79 R130. -/
  | ld_A_C
  /-- `LD A,D`, 7A R130. -/
  | ld_A_D
  /-- `LD A,E`, 7B R130. -/
  | ld_A_E
  /-- `LD A,H`, 7C R130. -/
  | ld_A_H
  /-- `LD A,L`, 7D R130. -/
  | ld_A_L
  /-- `LD A,[HL]`, 7E R134. -/
  | ld_A_atHL
  /-- `LD A,A`, 7F R130. -/
  | ld_A_A
  /-- `ADD A,B`, 80 R177. -/
  | add_A_B
  /-- `ADD A,C`, 81 R177. -/
  | add_A_C
  /-- `ADD A,D`, 82 R177. -/
  | add_A_D
  /-- `ADD A,E`, 83 R177. -/
  | add_A_E
  /-- `ADD A,H`, 84 R177. -/
  | add_A_H
  /-- `ADD A,L`, 85 R177. -/
  | add_A_L
  /-- `ADD A,[HL]`, 86 R178. -/
  | add_A_atHL
  /-- `ADD A,A`, 87 R177. -/
  | add_A_A
  /-- `ADC A,B`, 88 R180. -/
  | adc_A_B
  /-- `ADC A,C`, 89 R180. -/
  | adc_A_C
  /-- `ADC A,D`, 8A R180. -/
  | adc_A_D
  /-- `ADC A,E`, 8B R180. -/
  | adc_A_E
  /-- `ADC A,H`, 8C R180. -/
  | adc_A_H
  /-- `ADC A,L`, 8D R180. -/
  | adc_A_L
  /-- `ADC A,[HL]`, 8E R181. -/
  | adc_A_atHL
  /-- `ADC A,A`, 8F R180. -/
  | adc_A_A
  /-- `SUB A,B`, 90 R183. -/
  | sub_A_B
  /-- `SUB A,C`, 91 R183. -/
  | sub_A_C
  /-- `SUB A,D`, 92 R183. -/
  | sub_A_D
  /-- `SUB A,E`, 93 R183. -/
  | sub_A_E
  /-- `SUB A,H`, 94 R183. -/
  | sub_A_H
  /-- `SUB A,L`, 95 R183. -/
  | sub_A_L
  /-- `SUB A,[HL]`, 96 R184. -/
  | sub_A_atHL
  /-- `SUB A,A`, 97 R183. -/
  | sub_A_A
  /-- `SBC A,B`, 98 R189. -/
  | sbc_A_B
  /-- `SBC A,C`, 99 R189. -/
  | sbc_A_C
  /-- `SBC A,D`, 9A R189. -/
  | sbc_A_D
  /-- `SBC A,E`, 9B R189. -/
  | sbc_A_E
  /-- `SBC A,H`, 9C R189. -/
  | sbc_A_H
  /-- `SBC A,L`, 9D R189. -/
  | sbc_A_L
  /-- `SBC A,[HL]`, 9E R190. -/
  | sbc_A_atHL
  /-- `SBC A,A`, 9F R189. -/
  | sbc_A_A
  /-- `AND A,B`, A0 R192. -/
  | and_A_B
  /-- `AND A,C`, A1 R192. -/
  | and_A_C
  /-- `AND A,D`, A2 R192. -/
  | and_A_D
  /-- `AND A,E`, A3 R192. -/
  | and_A_E
  /-- `AND A,H`, A4 R192. -/
  | and_A_H
  /-- `AND A,L`, A5 R192. -/
  | and_A_L
  /-- `AND A,[HL]`, A6 R193. -/
  | and_A_atHL
  /-- `AND A,A`, A7 R192. -/
  | and_A_A
  /-- `XOR A,B`, A8 R198. -/
  | xor_A_B
  /-- `XOR A,C`, A9 R198. -/
  | xor_A_C
  /-- `XOR A,D`, AA R198. -/
  | xor_A_D
  /-- `XOR A,E`, AB R198. -/
  | xor_A_E
  /-- `XOR A,H`, AC R198. -/
  | xor_A_H
  /-- `XOR A,L`, AD R198. -/
  | xor_A_L
  /-- `XOR A,[HL]`, AE R199. -/
  | xor_A_atHL
  /-- `XOR A,A`, AF R198. -/
  | xor_A_A
  /-- `OR A,B`, B0 R195. -/
  | or_A_B
  /-- `OR A,C`, B1 R195. -/
  | or_A_C
  /-- `OR A,D`, B2 R195. -/
  | or_A_D
  /-- `OR A,E`, B3 R195. -/
  | or_A_E
  /-- `OR A,H`, B4 R195. -/
  | or_A_H
  /-- `OR A,L`, B5 R195. -/
  | or_A_L
  /-- `OR A,[HL]`, B6 R196. -/
  | or_A_atHL
  /-- `OR A,A`, B7 R195. -/
  | or_A_A
  /-- `CP A,B`, B8 R186. -/
  | cp_A_B
  /-- `CP A,C`, B9 R186. -/
  | cp_A_C
  /-- `CP A,D`, BA R186. -/
  | cp_A_D
  /-- `CP A,E`, BB R186. -/
  | cp_A_E
  /-- `CP A,H`, BC R186. -/
  | cp_A_H
  /-- `CP A,L`, BD R186. -/
  | cp_A_L
  /-- `CP A,[HL]`, BE R187. -/
  | cp_A_atHL
  /-- `CP A,A`, BF R186. -/
  | cp_A_A
  /-- `RET NZ`, C0 R240. -/
  | ret_NZ
  /-- `POP BC`, C1 R231. -/
  | pop_BC
  /-- `PUSH BC`, C5 R230. -/
  | push_BC
  /-- `RST 0x00`, C7 R242. -/
  | rst_00
  /-- `RET Z`, C8 R240. -/
  | ret_Z
  /-- `RET`, C9 R239. -/
  | ret
  /-- `RST 0x08`, CF R242. -/
  | rst_08
  /-- `RET NC`, D0 R240. -/
  | ret_NC
  /-- `POP DE`, D1 R231. -/
  | pop_DE
  /-- `unused opcode`, D3 R266. -/
  | unused_D3
  /-- `PUSH DE`, D5 R230. -/
  | push_DE
  /-- `RST 0x10`, D7 R242. -/
  | rst_10
  /-- `RET C`, D8 R240. -/
  | ret_C
  /-- `RETI`, D9 R241. -/
  | reti
  /-- `unused opcode`, DB R266. -/
  | unused_DB
  /-- `unused opcode`, DD R266. -/
  | unused_DD
  /-- `RST 0x18`, DF R242. -/
  | rst_18
  /-- `POP HL`, E1 R231. -/
  | pop_HL
  /-- `LD [$FF00+C],A`, E2 R149. -/
  | ld_highC_A
  /-- `unused opcode`, E3 R266. -/
  | unused_E3
  /-- `unused opcode`, E4 R266. -/
  | unused_E4
  /-- `PUSH HL`, E5 R230. -/
  | push_HL
  /-- `RST 0x20`, E7 R242. -/
  | rst_20
  /-- `JP HL`, E9 R233. -/
  | jp_HL
  /-- `unused opcode`, EB R266. -/
  | unused_EB
  /-- `unused opcode`, EC R266. -/
  | unused_EC
  /-- `unused opcode`, ED R266. -/
  | unused_ED
  /-- `RST 0x28`, EF R242. -/
  | rst_28
  /-- `POP AF`, F1 R231. -/
  | pop_AF
  /-- `LD A,[$FF00+C]`, F2 R150. -/
  | ld_A_highC
  /-- `DI`, F3 R261. -/
  | di
  /-- `unused opcode`, F4 R266. -/
  | unused_F4
  /-- `PUSH AF`, F5 R230. -/
  | push_AF
  /-- `RST 0x30`, F7 R242. -/
  | rst_30
  /-- `LD HL,SP`, F9 R151. -/
  | ld_HL_SP
  /-- `EI`, FB R260. -/
  | ei
  /-- `unused opcode`, FC R266. -/
  | unused_FC
  /-- `unused opcode`, FD R266. -/
  | unused_FD
  /-- `RST 0x38`, FF R242. -/
  | rst_38
  /-- `RLC B`, CB 00 R291. -/
  | rlc_B
  /-- `RLC C`, CB 01 R291. -/
  | rlc_C
  /-- `RLC D`, CB 02 R291. -/
  | rlc_D
  /-- `RLC E`, CB 03 R291. -/
  | rlc_E
  /-- `RLC H`, CB 04 R291. -/
  | rlc_H
  /-- `RLC L`, CB 05 R291. -/
  | rlc_L
  /-- `RLC [HL]`, CB 06 R292. -/
  | rlc_atHL
  /-- `RLC A`, CB 07 R291. -/
  | rlc_A
  /-- `RRC B`, CB 08 R293. -/
  | rrc_B
  /-- `RRC C`, CB 09 R293. -/
  | rrc_C
  /-- `RRC D`, CB 0A R293. -/
  | rrc_D
  /-- `RRC E`, CB 0B R293. -/
  | rrc_E
  /-- `RRC H`, CB 0C R293. -/
  | rrc_H
  /-- `RRC L`, CB 0D R293. -/
  | rrc_L
  /-- `RRC [HL]`, CB 0E R294. -/
  | rrc_atHL
  /-- `RRC A`, CB 0F R293. -/
  | rrc_A
  /-- `RL B`, CB 10 R295. -/
  | rl_B
  /-- `RL C`, CB 11 R295. -/
  | rl_C
  /-- `RL D`, CB 12 R295. -/
  | rl_D
  /-- `RL E`, CB 13 R295. -/
  | rl_E
  /-- `RL H`, CB 14 R295. -/
  | rl_H
  /-- `RL L`, CB 15 R295. -/
  | rl_L
  /-- `RL [HL]`, CB 16 R296. -/
  | rl_atHL
  /-- `RL A`, CB 17 R295. -/
  | rl_A
  /-- `RR B`, CB 18 R297. -/
  | rr_B
  /-- `RR C`, CB 19 R297. -/
  | rr_C
  /-- `RR D`, CB 1A R297. -/
  | rr_D
  /-- `RR E`, CB 1B R297. -/
  | rr_E
  /-- `RR H`, CB 1C R297. -/
  | rr_H
  /-- `RR L`, CB 1D R297. -/
  | rr_L
  /-- `RR [HL]`, CB 1E R298. -/
  | rr_atHL
  /-- `RR A`, CB 1F R297. -/
  | rr_A
  /-- `SLA B`, CB 20 R299. -/
  | sla_B
  /-- `SLA C`, CB 21 R299. -/
  | sla_C
  /-- `SLA D`, CB 22 R299. -/
  | sla_D
  /-- `SLA E`, CB 23 R299. -/
  | sla_E
  /-- `SLA H`, CB 24 R299. -/
  | sla_H
  /-- `SLA L`, CB 25 R299. -/
  | sla_L
  /-- `SLA [HL]`, CB 26 R300. -/
  | sla_atHL
  /-- `SLA A`, CB 27 R299. -/
  | sla_A
  /-- `SRA B`, CB 28 R301. -/
  | sra_B
  /-- `SRA C`, CB 29 R301. -/
  | sra_C
  /-- `SRA D`, CB 2A R301. -/
  | sra_D
  /-- `SRA E`, CB 2B R301. -/
  | sra_E
  /-- `SRA H`, CB 2C R301. -/
  | sra_H
  /-- `SRA L`, CB 2D R301. -/
  | sra_L
  /-- `SRA [HL]`, CB 2E R302. -/
  | sra_atHL
  /-- `SRA A`, CB 2F R301. -/
  | sra_A
  /-- `SWAP B`, CB 30 R303. -/
  | swap_B
  /-- `SWAP C`, CB 31 R303. -/
  | swap_C
  /-- `SWAP D`, CB 32 R303. -/
  | swap_D
  /-- `SWAP E`, CB 33 R303. -/
  | swap_E
  /-- `SWAP H`, CB 34 R303. -/
  | swap_H
  /-- `SWAP L`, CB 35 R303. -/
  | swap_L
  /-- `SWAP [HL]`, CB 36 R304. -/
  | swap_atHL
  /-- `SWAP A`, CB 37 R303. -/
  | swap_A
  /-- `SRL B`, CB 38 R305. -/
  | srl_B
  /-- `SRL C`, CB 39 R305. -/
  | srl_C
  /-- `SRL D`, CB 3A R305. -/
  | srl_D
  /-- `SRL E`, CB 3B R305. -/
  | srl_E
  /-- `SRL H`, CB 3C R305. -/
  | srl_H
  /-- `SRL L`, CB 3D R305. -/
  | srl_L
  /-- `SRL [HL]`, CB 3E R306. -/
  | srl_atHL
  /-- `SRL A`, CB 3F R305. -/
  | srl_A
  /-- `BIT 0,B`, CB 40 R307. -/
  | bit_0_B
  /-- `BIT 0,C`, CB 41 R307. -/
  | bit_0_C
  /-- `BIT 0,D`, CB 42 R307. -/
  | bit_0_D
  /-- `BIT 0,E`, CB 43 R307. -/
  | bit_0_E
  /-- `BIT 0,H`, CB 44 R307. -/
  | bit_0_H
  /-- `BIT 0,L`, CB 45 R307. -/
  | bit_0_L
  /-- `BIT 0,[HL]`, CB 46 R308. -/
  | bit_0_atHL
  /-- `BIT 0,A`, CB 47 R307. -/
  | bit_0_A
  /-- `BIT 1,B`, CB 48 R307. -/
  | bit_1_B
  /-- `BIT 1,C`, CB 49 R307. -/
  | bit_1_C
  /-- `BIT 1,D`, CB 4A R307. -/
  | bit_1_D
  /-- `BIT 1,E`, CB 4B R307. -/
  | bit_1_E
  /-- `BIT 1,H`, CB 4C R307. -/
  | bit_1_H
  /-- `BIT 1,L`, CB 4D R307. -/
  | bit_1_L
  /-- `BIT 1,[HL]`, CB 4E R308. -/
  | bit_1_atHL
  /-- `BIT 1,A`, CB 4F R307. -/
  | bit_1_A
  /-- `BIT 2,B`, CB 50 R307. -/
  | bit_2_B
  /-- `BIT 2,C`, CB 51 R307. -/
  | bit_2_C
  /-- `BIT 2,D`, CB 52 R307. -/
  | bit_2_D
  /-- `BIT 2,E`, CB 53 R307. -/
  | bit_2_E
  /-- `BIT 2,H`, CB 54 R307. -/
  | bit_2_H
  /-- `BIT 2,L`, CB 55 R307. -/
  | bit_2_L
  /-- `BIT 2,[HL]`, CB 56 R308. -/
  | bit_2_atHL
  /-- `BIT 2,A`, CB 57 R307. -/
  | bit_2_A
  /-- `BIT 3,B`, CB 58 R307. -/
  | bit_3_B
  /-- `BIT 3,C`, CB 59 R307. -/
  | bit_3_C
  /-- `BIT 3,D`, CB 5A R307. -/
  | bit_3_D
  /-- `BIT 3,E`, CB 5B R307. -/
  | bit_3_E
  /-- `BIT 3,H`, CB 5C R307. -/
  | bit_3_H
  /-- `BIT 3,L`, CB 5D R307. -/
  | bit_3_L
  /-- `BIT 3,[HL]`, CB 5E R308. -/
  | bit_3_atHL
  /-- `BIT 3,A`, CB 5F R307. -/
  | bit_3_A
  /-- `BIT 4,B`, CB 60 R307. -/
  | bit_4_B
  /-- `BIT 4,C`, CB 61 R307. -/
  | bit_4_C
  /-- `BIT 4,D`, CB 62 R307. -/
  | bit_4_D
  /-- `BIT 4,E`, CB 63 R307. -/
  | bit_4_E
  /-- `BIT 4,H`, CB 64 R307. -/
  | bit_4_H
  /-- `BIT 4,L`, CB 65 R307. -/
  | bit_4_L
  /-- `BIT 4,[HL]`, CB 66 R308. -/
  | bit_4_atHL
  /-- `BIT 4,A`, CB 67 R307. -/
  | bit_4_A
  /-- `BIT 5,B`, CB 68 R307. -/
  | bit_5_B
  /-- `BIT 5,C`, CB 69 R307. -/
  | bit_5_C
  /-- `BIT 5,D`, CB 6A R307. -/
  | bit_5_D
  /-- `BIT 5,E`, CB 6B R307. -/
  | bit_5_E
  /-- `BIT 5,H`, CB 6C R307. -/
  | bit_5_H
  /-- `BIT 5,L`, CB 6D R307. -/
  | bit_5_L
  /-- `BIT 5,[HL]`, CB 6E R308. -/
  | bit_5_atHL
  /-- `BIT 5,A`, CB 6F R307. -/
  | bit_5_A
  /-- `BIT 6,B`, CB 70 R307. -/
  | bit_6_B
  /-- `BIT 6,C`, CB 71 R307. -/
  | bit_6_C
  /-- `BIT 6,D`, CB 72 R307. -/
  | bit_6_D
  /-- `BIT 6,E`, CB 73 R307. -/
  | bit_6_E
  /-- `BIT 6,H`, CB 74 R307. -/
  | bit_6_H
  /-- `BIT 6,L`, CB 75 R307. -/
  | bit_6_L
  /-- `BIT 6,[HL]`, CB 76 R308. -/
  | bit_6_atHL
  /-- `BIT 6,A`, CB 77 R307. -/
  | bit_6_A
  /-- `BIT 7,B`, CB 78 R307. -/
  | bit_7_B
  /-- `BIT 7,C`, CB 79 R307. -/
  | bit_7_C
  /-- `BIT 7,D`, CB 7A R307. -/
  | bit_7_D
  /-- `BIT 7,E`, CB 7B R307. -/
  | bit_7_E
  /-- `BIT 7,H`, CB 7C R307. -/
  | bit_7_H
  /-- `BIT 7,L`, CB 7D R307. -/
  | bit_7_L
  /-- `BIT 7,[HL]`, CB 7E R308. -/
  | bit_7_atHL
  /-- `BIT 7,A`, CB 7F R307. -/
  | bit_7_A
  /-- `RES 0,B`, CB 80 R309. -/
  | res_0_B
  /-- `RES 0,C`, CB 81 R309. -/
  | res_0_C
  /-- `RES 0,D`, CB 82 R309. -/
  | res_0_D
  /-- `RES 0,E`, CB 83 R309. -/
  | res_0_E
  /-- `RES 0,H`, CB 84 R309. -/
  | res_0_H
  /-- `RES 0,L`, CB 85 R309. -/
  | res_0_L
  /-- `RES 0,[HL]`, CB 86 R310. -/
  | res_0_atHL
  /-- `RES 0,A`, CB 87 R309. -/
  | res_0_A
  /-- `RES 1,B`, CB 88 R309. -/
  | res_1_B
  /-- `RES 1,C`, CB 89 R309. -/
  | res_1_C
  /-- `RES 1,D`, CB 8A R309. -/
  | res_1_D
  /-- `RES 1,E`, CB 8B R309. -/
  | res_1_E
  /-- `RES 1,H`, CB 8C R309. -/
  | res_1_H
  /-- `RES 1,L`, CB 8D R309. -/
  | res_1_L
  /-- `RES 1,[HL]`, CB 8E R310. -/
  | res_1_atHL
  /-- `RES 1,A`, CB 8F R309. -/
  | res_1_A
  /-- `RES 2,B`, CB 90 R309. -/
  | res_2_B
  /-- `RES 2,C`, CB 91 R309. -/
  | res_2_C
  /-- `RES 2,D`, CB 92 R309. -/
  | res_2_D
  /-- `RES 2,E`, CB 93 R309. -/
  | res_2_E
  /-- `RES 2,H`, CB 94 R309. -/
  | res_2_H
  /-- `RES 2,L`, CB 95 R309. -/
  | res_2_L
  /-- `RES 2,[HL]`, CB 96 R310. -/
  | res_2_atHL
  /-- `RES 2,A`, CB 97 R309. -/
  | res_2_A
  /-- `RES 3,B`, CB 98 R309. -/
  | res_3_B
  /-- `RES 3,C`, CB 99 R309. -/
  | res_3_C
  /-- `RES 3,D`, CB 9A R309. -/
  | res_3_D
  /-- `RES 3,E`, CB 9B R309. -/
  | res_3_E
  /-- `RES 3,H`, CB 9C R309. -/
  | res_3_H
  /-- `RES 3,L`, CB 9D R309. -/
  | res_3_L
  /-- `RES 3,[HL]`, CB 9E R310. -/
  | res_3_atHL
  /-- `RES 3,A`, CB 9F R309. -/
  | res_3_A
  /-- `RES 4,B`, CB A0 R309. -/
  | res_4_B
  /-- `RES 4,C`, CB A1 R309. -/
  | res_4_C
  /-- `RES 4,D`, CB A2 R309. -/
  | res_4_D
  /-- `RES 4,E`, CB A3 R309. -/
  | res_4_E
  /-- `RES 4,H`, CB A4 R309. -/
  | res_4_H
  /-- `RES 4,L`, CB A5 R309. -/
  | res_4_L
  /-- `RES 4,[HL]`, CB A6 R310. -/
  | res_4_atHL
  /-- `RES 4,A`, CB A7 R309. -/
  | res_4_A
  /-- `RES 5,B`, CB A8 R309. -/
  | res_5_B
  /-- `RES 5,C`, CB A9 R309. -/
  | res_5_C
  /-- `RES 5,D`, CB AA R309. -/
  | res_5_D
  /-- `RES 5,E`, CB AB R309. -/
  | res_5_E
  /-- `RES 5,H`, CB AC R309. -/
  | res_5_H
  /-- `RES 5,L`, CB AD R309. -/
  | res_5_L
  /-- `RES 5,[HL]`, CB AE R310. -/
  | res_5_atHL
  /-- `RES 5,A`, CB AF R309. -/
  | res_5_A
  /-- `RES 6,B`, CB B0 R309. -/
  | res_6_B
  /-- `RES 6,C`, CB B1 R309. -/
  | res_6_C
  /-- `RES 6,D`, CB B2 R309. -/
  | res_6_D
  /-- `RES 6,E`, CB B3 R309. -/
  | res_6_E
  /-- `RES 6,H`, CB B4 R309. -/
  | res_6_H
  /-- `RES 6,L`, CB B5 R309. -/
  | res_6_L
  /-- `RES 6,[HL]`, CB B6 R310. -/
  | res_6_atHL
  /-- `RES 6,A`, CB B7 R309. -/
  | res_6_A
  /-- `RES 7,B`, CB B8 R309. -/
  | res_7_B
  /-- `RES 7,C`, CB B9 R309. -/
  | res_7_C
  /-- `RES 7,D`, CB BA R309. -/
  | res_7_D
  /-- `RES 7,E`, CB BB R309. -/
  | res_7_E
  /-- `RES 7,H`, CB BC R309. -/
  | res_7_H
  /-- `RES 7,L`, CB BD R309. -/
  | res_7_L
  /-- `RES 7,[HL]`, CB BE R310. -/
  | res_7_atHL
  /-- `RES 7,A`, CB BF R309. -/
  | res_7_A
  /-- `SET 0,B`, CB C0 R311. -/
  | set_0_B
  /-- `SET 0,C`, CB C1 R311. -/
  | set_0_C
  /-- `SET 0,D`, CB C2 R311. -/
  | set_0_D
  /-- `SET 0,E`, CB C3 R311. -/
  | set_0_E
  /-- `SET 0,H`, CB C4 R311. -/
  | set_0_H
  /-- `SET 0,L`, CB C5 R311. -/
  | set_0_L
  /-- `SET 0,[HL]`, CB C6 R312. -/
  | set_0_atHL
  /-- `SET 0,A`, CB C7 R311. -/
  | set_0_A
  /-- `SET 1,B`, CB C8 R311. -/
  | set_1_B
  /-- `SET 1,C`, CB C9 R311. -/
  | set_1_C
  /-- `SET 1,D`, CB CA R311. -/
  | set_1_D
  /-- `SET 1,E`, CB CB R311. -/
  | set_1_E
  /-- `SET 1,H`, CB CC R311. -/
  | set_1_H
  /-- `SET 1,L`, CB CD R311. -/
  | set_1_L
  /-- `SET 1,[HL]`, CB CE R312. -/
  | set_1_atHL
  /-- `SET 1,A`, CB CF R311. -/
  | set_1_A
  /-- `SET 2,B`, CB D0 R311. -/
  | set_2_B
  /-- `SET 2,C`, CB D1 R311. -/
  | set_2_C
  /-- `SET 2,D`, CB D2 R311. -/
  | set_2_D
  /-- `SET 2,E`, CB D3 R311. -/
  | set_2_E
  /-- `SET 2,H`, CB D4 R311. -/
  | set_2_H
  /-- `SET 2,L`, CB D5 R311. -/
  | set_2_L
  /-- `SET 2,[HL]`, CB D6 R312. -/
  | set_2_atHL
  /-- `SET 2,A`, CB D7 R311. -/
  | set_2_A
  /-- `SET 3,B`, CB D8 R311. -/
  | set_3_B
  /-- `SET 3,C`, CB D9 R311. -/
  | set_3_C
  /-- `SET 3,D`, CB DA R311. -/
  | set_3_D
  /-- `SET 3,E`, CB DB R311. -/
  | set_3_E
  /-- `SET 3,H`, CB DC R311. -/
  | set_3_H
  /-- `SET 3,L`, CB DD R311. -/
  | set_3_L
  /-- `SET 3,[HL]`, CB DE R312. -/
  | set_3_atHL
  /-- `SET 3,A`, CB DF R311. -/
  | set_3_A
  /-- `SET 4,B`, CB E0 R311. -/
  | set_4_B
  /-- `SET 4,C`, CB E1 R311. -/
  | set_4_C
  /-- `SET 4,D`, CB E2 R311. -/
  | set_4_D
  /-- `SET 4,E`, CB E3 R311. -/
  | set_4_E
  /-- `SET 4,H`, CB E4 R311. -/
  | set_4_H
  /-- `SET 4,L`, CB E5 R311. -/
  | set_4_L
  /-- `SET 4,[HL]`, CB E6 R312. -/
  | set_4_atHL
  /-- `SET 4,A`, CB E7 R311. -/
  | set_4_A
  /-- `SET 5,B`, CB E8 R311. -/
  | set_5_B
  /-- `SET 5,C`, CB E9 R311. -/
  | set_5_C
  /-- `SET 5,D`, CB EA R311. -/
  | set_5_D
  /-- `SET 5,E`, CB EB R311. -/
  | set_5_E
  /-- `SET 5,H`, CB EC R311. -/
  | set_5_H
  /-- `SET 5,L`, CB ED R311. -/
  | set_5_L
  /-- `SET 5,[HL]`, CB EE R312. -/
  | set_5_atHL
  /-- `SET 5,A`, CB EF R311. -/
  | set_5_A
  /-- `SET 6,B`, CB F0 R311. -/
  | set_6_B
  /-- `SET 6,C`, CB F1 R311. -/
  | set_6_C
  /-- `SET 6,D`, CB F2 R311. -/
  | set_6_D
  /-- `SET 6,E`, CB F3 R311. -/
  | set_6_E
  /-- `SET 6,H`, CB F4 R311. -/
  | set_6_H
  /-- `SET 6,L`, CB F5 R311. -/
  | set_6_L
  /-- `SET 6,[HL]`, CB F6 R312. -/
  | set_6_atHL
  /-- `SET 6,A`, CB F7 R311. -/
  | set_6_A
  /-- `SET 7,B`, CB F8 R311. -/
  | set_7_B
  /-- `SET 7,C`, CB F9 R311. -/
  | set_7_C
  /-- `SET 7,D`, CB FA R311. -/
  | set_7_D
  /-- `SET 7,E`, CB FB R311. -/
  | set_7_E
  /-- `SET 7,H`, CB FC R311. -/
  | set_7_H
  /-- `SET 7,L`, CB FD R311. -/
  | set_7_L
  /-- `SET 7,[HL]`, CB FE R312. -/
  | set_7_atHL
  /-- `SET 7,A`, CB FF R311. -/
  | set_7_A
  deriving DecidableEq, Repr

end Sys2Proof
end

