-- ==== Sys2Proof/WellFormed.lean ====
section
/-! DEFINITION. Which terms of `Instr` stand for a whole instruction. Every operand already has its exact width, so the one
check is that the 0xCB entry is not an instruction by itself: it "fetches the second byte with `Fetch8()` and executes
`ExtTable[op2]`" (40_step_dispatch.md R113), so its two bytes are those of the extended instruction (log 22). -/
namespace Sys2Proof

/-- Whether a term is the 0xCB entry of the base table (45_system_unused.md R265). -/
def Instr.isPrefixEntry (i : Instr) : Bool :=
  match i with
  | .prefixCB _ => true
  | _ => false

/-- A term that stands for a whole instruction. -/
def Instr.wellFormed (i : Instr) : Bool := !i.isPrefixEntry

end Sys2Proof
end

