-- ==== Sys2Proof/Decode.lean ====
section
/-! DEFINITION. The decoder and the encoder, from the field tables of 30_encoding.md R81 to R95, and the byte-order and
extension helpers they use (00_scope.md R7; R90). Decoding never fails on three bytes (R99); on a list of bytes it rejects,
by name, a list that ends inside an instruction. -/
namespace Sys2Proof

/-- `{hi, lo}`: concatenation, the first named most significant (00_scope.md R7). -/
def mkWord (hi lo : Byte) : Word := hi ++ lo

/-- `lo8(w) = w[7:0]` (00_scope.md R7). -/
def lo8 (w : Word) : Byte := w.extractLsb' 0 8

/-- `hi8(w) = w[15:8]` (00_scope.md R7). -/
def hi8 (w : Word) : Byte := w.extractLsb' 8 8

/-- `sext_16(b)`: the byte read as two's complement and widened (00_scope.md R7). -/
def sext16 (b : Byte) : Word := b.signExtend 16

/-- `LD r,r'` by its registers (41_loads.md R130). -/
def Instr.ldRROf (d : Reg8) (r : Reg8) : Instr :=
  match d, r with
  | .B, .B => .ld_B_B
  | .B, .C => .ld_B_C
  | .B, .D => .ld_B_D
  | .B, .E => .ld_B_E
  | .B, .H => .ld_B_H
  | .B, .L => .ld_B_L
  | .B, .A => .ld_B_A
  | .C, .B => .ld_C_B
  | .C, .C => .ld_C_C
  | .C, .D => .ld_C_D
  | .C, .E => .ld_C_E
  | .C, .H => .ld_C_H
  | .C, .L => .ld_C_L
  | .C, .A => .ld_C_A
  | .D, .B => .ld_D_B
  | .D, .C => .ld_D_C
  | .D, .D => .ld_D_D
  | .D, .E => .ld_D_E
  | .D, .H => .ld_D_H
  | .D, .L => .ld_D_L
  | .D, .A => .ld_D_A
  | .E, .B => .ld_E_B
  | .E, .C => .ld_E_C
  | .E, .D => .ld_E_D
  | .E, .E => .ld_E_E
  | .E, .H => .ld_E_H
  | .E, .L => .ld_E_L
  | .E, .A => .ld_E_A
  | .H, .B => .ld_H_B
  | .H, .C => .ld_H_C
  | .H, .D => .ld_H_D
  | .H, .E => .ld_H_E
  | .H, .H => .ld_H_H
  | .H, .L => .ld_H_L
  | .H, .A => .ld_H_A
  | .L, .B => .ld_L_B
  | .L, .C => .ld_L_C
  | .L, .D => .ld_L_D
  | .L, .E => .ld_L_E
  | .L, .H => .ld_L_H
  | .L, .L => .ld_L_L
  | .L, .A => .ld_L_A
  | .A, .B => .ld_A_B
  | .A, .C => .ld_A_C
  | .A, .D => .ld_A_D
  | .A, .E => .ld_A_E
  | .A, .H => .ld_A_H
  | .A, .L => .ld_A_L
  | .A, .A => .ld_A_A

/-- `LD r,d8` by its register (41_loads.md R131). -/
def Instr.ldRIOf (d : Reg8) (d8 : Byte) : Instr :=
  match d with
  | .B => .ld_B_d8 d8
  | .C => .ld_C_d8 d8
  | .D => .ld_D_d8 d8
  | .E => .ld_E_d8 d8
  | .H => .ld_H_d8 d8
  | .L => .ld_L_d8 d8
  | .A => .ld_A_d8 d8

/-- `LD rr,d16` by its pair (41_loads.md R133). -/
def Instr.ldPIOf (rr : Pair) (d16 : Word) : Instr :=
  match rr with
  | .BC => .ld_BC_d16 d16
  | .DE => .ld_DE_d16 d16
  | .HL => .ld_HL_d16 d16
  | .SP => .ld_SP_d16 d16

/-- `LD r,[HL]` by its register (41_loads.md R134). -/
def Instr.ldRMOf (d : Reg8) : Instr :=
  match d with
  | .B => .ld_B_atHL
  | .C => .ld_C_atHL
  | .D => .ld_D_atHL
  | .E => .ld_E_atHL
  | .H => .ld_H_atHL
  | .L => .ld_L_atHL
  | .A => .ld_A_atHL

/-- `LD [HL],r` by its register (41_loads.md R135). -/
def Instr.ldMROf (r : Reg8) : Instr :=
  match r with
  | .B => .ld_atHL_B
  | .C => .ld_atHL_C
  | .D => .ld_atHL_D
  | .E => .ld_atHL_E
  | .H => .ld_atHL_H
  | .L => .ld_atHL_L
  | .A => .ld_atHL_A

/-- The store of `A` by its addressing mode (41_loads.md R136 to R149). -/
def Instr.stAccOf (m : AccMode) : Instr :=
  match m with
  | .atBC => .ld_atBC_A
  | .atDE => .ld_atDE_A
  | .atHLinc => .ld_atHLinc_A
  | .atHLdec => .ld_atHLdec_A
  | .atA16 a16 => .ld_atA16_A a16
  | .highA8 a8 => .ld_highA8_A a8
  | .highC => .ld_highC_A

/-- The load of `A` by its addressing mode (41_loads.md R138 to R150). -/
def Instr.ldAccOf (m : AccMode) : Instr :=
  match m with
  | .atBC => .ld_A_atBC
  | .atDE => .ld_A_atDE
  | .atHLinc => .ld_A_atHLinc
  | .atHLdec => .ld_A_atHLdec
  | .atA16 a16 => .ld_A_atA16 a16
  | .highA8 a8 => .ld_A_highA8 a8
  | .highC => .ld_A_highC

/-- 8-bit `INC` by its operand (42_alu8.md R173, R175). -/
def Instr.inc8Of (o : Opnd8) : Instr :=
  match o with
  | .reg .B => .inc_B
  | .reg .C => .inc_C
  | .reg .D => .inc_D
  | .reg .E => .inc_E
  | .reg .H => .inc_H
  | .reg .L => .inc_L
  | .atHL => .inc_atHL
  | .reg .A => .inc_A

/-- 8-bit `DEC` by its operand (42_alu8.md R174, R176). -/
def Instr.dec8Of (o : Opnd8) : Instr :=
  match o with
  | .reg .B => .dec_B
  | .reg .C => .dec_C
  | .reg .D => .dec_D
  | .reg .E => .dec_E
  | .reg .H => .dec_H
  | .reg .L => .dec_L
  | .atHL => .dec_atHL
  | .reg .A => .dec_A

/-- The accumulator operations on a register or on `[HL]` (42_alu8.md R177 to R199). -/
def Instr.aluOf (op : AluOp) (o : Opnd8) : Instr :=
  match op, o with
  | .add, .reg .B => .add_A_B
  | .add, .reg .C => .add_A_C
  | .add, .reg .D => .add_A_D
  | .add, .reg .E => .add_A_E
  | .add, .reg .H => .add_A_H
  | .add, .reg .L => .add_A_L
  | .add, .atHL => .add_A_atHL
  | .add, .reg .A => .add_A_A
  | .adc, .reg .B => .adc_A_B
  | .adc, .reg .C => .adc_A_C
  | .adc, .reg .D => .adc_A_D
  | .adc, .reg .E => .adc_A_E
  | .adc, .reg .H => .adc_A_H
  | .adc, .reg .L => .adc_A_L
  | .adc, .atHL => .adc_A_atHL
  | .adc, .reg .A => .adc_A_A
  | .sub, .reg .B => .sub_A_B
  | .sub, .reg .C => .sub_A_C
  | .sub, .reg .D => .sub_A_D
  | .sub, .reg .E => .sub_A_E
  | .sub, .reg .H => .sub_A_H
  | .sub, .reg .L => .sub_A_L
  | .sub, .atHL => .sub_A_atHL
  | .sub, .reg .A => .sub_A_A
  | .sbc, .reg .B => .sbc_A_B
  | .sbc, .reg .C => .sbc_A_C
  | .sbc, .reg .D => .sbc_A_D
  | .sbc, .reg .E => .sbc_A_E
  | .sbc, .reg .H => .sbc_A_H
  | .sbc, .reg .L => .sbc_A_L
  | .sbc, .atHL => .sbc_A_atHL
  | .sbc, .reg .A => .sbc_A_A
  | .and, .reg .B => .and_A_B
  | .and, .reg .C => .and_A_C
  | .and, .reg .D => .and_A_D
  | .and, .reg .E => .and_A_E
  | .and, .reg .H => .and_A_H
  | .and, .reg .L => .and_A_L
  | .and, .atHL => .and_A_atHL
  | .and, .reg .A => .and_A_A
  | .xor, .reg .B => .xor_A_B
  | .xor, .reg .C => .xor_A_C
  | .xor, .reg .D => .xor_A_D
  | .xor, .reg .E => .xor_A_E
  | .xor, .reg .H => .xor_A_H
  | .xor, .reg .L => .xor_A_L
  | .xor, .atHL => .xor_A_atHL
  | .xor, .reg .A => .xor_A_A
  | .or, .reg .B => .or_A_B
  | .or, .reg .C => .or_A_C
  | .or, .reg .D => .or_A_D
  | .or, .reg .E => .or_A_E
  | .or, .reg .H => .or_A_H
  | .or, .reg .L => .or_A_L
  | .or, .atHL => .or_A_atHL
  | .or, .reg .A => .or_A_A
  | .cp, .reg .B => .cp_A_B
  | .cp, .reg .C => .cp_A_C
  | .cp, .reg .D => .cp_A_D
  | .cp, .reg .E => .cp_A_E
  | .cp, .reg .H => .cp_A_H
  | .cp, .reg .L => .cp_A_L
  | .cp, .atHL => .cp_A_atHL
  | .cp, .reg .A => .cp_A_A

/-- The accumulator operations on an immediate (42_alu8.md R179 to R200). -/
def Instr.aluIOf (op : AluOp) (d8 : Byte) : Instr :=
  match op with
  | .add => .add_A_d8 d8
  | .adc => .adc_A_d8 d8
  | .sub => .sub_A_d8 d8
  | .sbc => .sbc_A_d8 d8
  | .and => .and_A_d8 d8
  | .xor => .xor_A_d8 d8
  | .or => .or_A_d8 d8
  | .cp => .cp_A_d8 d8

/-- `INC rr` by its pair (43_alu16.md R213). -/
def Instr.inc16Of (rr : Pair) : Instr :=
  match rr with
  | .BC => .inc_BC
  | .DE => .inc_DE
  | .HL => .inc_HL
  | .SP => .inc_SP

/-- `DEC rr` by its pair (43_alu16.md R214). -/
def Instr.dec16Of (rr : Pair) : Instr :=
  match rr with
  | .BC => .dec_BC
  | .DE => .dec_DE
  | .HL => .dec_HL
  | .SP => .dec_SP

/-- `ADD HL,rr` by its pair (43_alu16.md R215). -/
def Instr.addHLOf (rr : Pair) : Instr :=
  match rr with
  | .BC => .add_HL_BC
  | .DE => .add_HL_DE
  | .HL => .add_HL_HL
  | .SP => .add_HL_SP

/-- `PUSH rr` by its pair (44_stack_control.md R230). -/
def Instr.pushOf (rr : StackPair) : Instr :=
  match rr with
  | .BC => .push_BC
  | .DE => .push_DE
  | .HL => .push_HL
  | .AF => .push_AF

/-- `POP rr` by its pair (44_stack_control.md R231). -/
def Instr.popOf (rr : StackPair) : Instr :=
  match rr with
  | .BC => .pop_BC
  | .DE => .pop_DE
  | .HL => .pop_HL
  | .AF => .pop_AF

/-- `JP cc,a16` by its condition (44_stack_control.md R234). -/
def Instr.jpCOf (cc : Cond) (a16 : Word) : Instr :=
  match cc with
  | .NZ => .jp_NZ_a16 a16
  | .Z => .jp_Z_a16 a16
  | .NC => .jp_NC_a16 a16
  | .C => .jp_C_a16 a16

/-- `JR cc,r8` by its condition (44_stack_control.md R236). -/
def Instr.jrCOf (cc : Cond) (r8 : Byte) : Instr :=
  match cc with
  | .NZ => .jr_NZ_r8 r8
  | .Z => .jr_Z_r8 r8
  | .NC => .jr_NC_r8 r8
  | .C => .jr_C_r8 r8

/-- `CALL cc,a16` by its condition (44_stack_control.md R238). -/
def Instr.callCOf (cc : Cond) (a16 : Word) : Instr :=
  match cc with
  | .NZ => .call_NZ_a16 a16
  | .Z => .call_Z_a16 a16
  | .NC => .call_NC_a16 a16
  | .C => .call_C_a16 a16

/-- `RET cc` by its condition (44_stack_control.md R240). -/
def Instr.retCOf (cc : Cond) : Instr :=
  match cc with
  | .NZ => .ret_NZ
  | .Z => .ret_Z
  | .NC => .ret_NC
  | .C => .ret_C

/-- `RST n` by its restart field (44_stack_control.md R242). -/
def Instr.rstOf (t : Fin 8) : Instr :=
  match t with
  | 0 => .rst_00
  | 1 => .rst_08
  | 2 => .rst_10
  | 3 => .rst_18
  | 4 => .rst_20
  | 5 => .rst_28
  | 6 => .rst_30
  | 7 => .rst_38

/-- The eleven unused opcodes (45_system_unused.md R266). -/
def Instr.unusedOf (u : UnusedOp) : Instr :=
  match u with
  | .xD3 => .unused_D3
  | .xDB => .unused_DB
  | .xDD => .unused_DD
  | .xE3 => .unused_E3
  | .xE4 => .unused_E4
  | .xEB => .unused_EB
  | .xEC => .unused_EC
  | .xED => .unused_ED
  | .xF4 => .unused_F4
  | .xFC => .unused_FC
  | .xFD => .unused_FD

/-- The extended rotates and shifts (46_extended_cb.md R291 to R306). -/
def Instr.rotOf (op : RotOp) (o : Opnd8) : Instr :=
  match op, o with
  | .rlc, .reg .B => .rlc_B
  | .rlc, .reg .C => .rlc_C
  | .rlc, .reg .D => .rlc_D
  | .rlc, .reg .E => .rlc_E
  | .rlc, .reg .H => .rlc_H
  | .rlc, .reg .L => .rlc_L
  | .rlc, .atHL => .rlc_atHL
  | .rlc, .reg .A => .rlc_A
  | .rrc, .reg .B => .rrc_B
  | .rrc, .reg .C => .rrc_C
  | .rrc, .reg .D => .rrc_D
  | .rrc, .reg .E => .rrc_E
  | .rrc, .reg .H => .rrc_H
  | .rrc, .reg .L => .rrc_L
  | .rrc, .atHL => .rrc_atHL
  | .rrc, .reg .A => .rrc_A
  | .rl, .reg .B => .rl_B
  | .rl, .reg .C => .rl_C
  | .rl, .reg .D => .rl_D
  | .rl, .reg .E => .rl_E
  | .rl, .reg .H => .rl_H
  | .rl, .reg .L => .rl_L
  | .rl, .atHL => .rl_atHL
  | .rl, .reg .A => .rl_A
  | .rr, .reg .B => .rr_B
  | .rr, .reg .C => .rr_C
  | .rr, .reg .D => .rr_D
  | .rr, .reg .E => .rr_E
  | .rr, .reg .H => .rr_H
  | .rr, .reg .L => .rr_L
  | .rr, .atHL => .rr_atHL
  | .rr, .reg .A => .rr_A
  | .sla, .reg .B => .sla_B
  | .sla, .reg .C => .sla_C
  | .sla, .reg .D => .sla_D
  | .sla, .reg .E => .sla_E
  | .sla, .reg .H => .sla_H
  | .sla, .reg .L => .sla_L
  | .sla, .atHL => .sla_atHL
  | .sla, .reg .A => .sla_A
  | .sra, .reg .B => .sra_B
  | .sra, .reg .C => .sra_C
  | .sra, .reg .D => .sra_D
  | .sra, .reg .E => .sra_E
  | .sra, .reg .H => .sra_H
  | .sra, .reg .L => .sra_L
  | .sra, .atHL => .sra_atHL
  | .sra, .reg .A => .sra_A
  | .swap, .reg .B => .swap_B
  | .swap, .reg .C => .swap_C
  | .swap, .reg .D => .swap_D
  | .swap, .reg .E => .swap_E
  | .swap, .reg .H => .swap_H
  | .swap, .reg .L => .swap_L
  | .swap, .atHL => .swap_atHL
  | .swap, .reg .A => .swap_A
  | .srl, .reg .B => .srl_B
  | .srl, .reg .C => .srl_C
  | .srl, .reg .D => .srl_D
  | .srl, .reg .E => .srl_E
  | .srl, .reg .H => .srl_H
  | .srl, .reg .L => .srl_L
  | .srl, .atHL => .srl_atHL
  | .srl, .reg .A => .srl_A

/-- `BIT n,r` and `BIT n,[HL]` (46_extended_cb.md R307, R308). -/
def Instr.bitOf (n : Fin 8) (o : Opnd8) : Instr :=
  match n, o with
  | 0, .reg .B => .bit_0_B
  | 0, .reg .C => .bit_0_C
  | 0, .reg .D => .bit_0_D
  | 0, .reg .E => .bit_0_E
  | 0, .reg .H => .bit_0_H
  | 0, .reg .L => .bit_0_L
  | 0, .atHL => .bit_0_atHL
  | 0, .reg .A => .bit_0_A
  | 1, .reg .B => .bit_1_B
  | 1, .reg .C => .bit_1_C
  | 1, .reg .D => .bit_1_D
  | 1, .reg .E => .bit_1_E
  | 1, .reg .H => .bit_1_H
  | 1, .reg .L => .bit_1_L
  | 1, .atHL => .bit_1_atHL
  | 1, .reg .A => .bit_1_A
  | 2, .reg .B => .bit_2_B
  | 2, .reg .C => .bit_2_C
  | 2, .reg .D => .bit_2_D
  | 2, .reg .E => .bit_2_E
  | 2, .reg .H => .bit_2_H
  | 2, .reg .L => .bit_2_L
  | 2, .atHL => .bit_2_atHL
  | 2, .reg .A => .bit_2_A
  | 3, .reg .B => .bit_3_B
  | 3, .reg .C => .bit_3_C
  | 3, .reg .D => .bit_3_D
  | 3, .reg .E => .bit_3_E
  | 3, .reg .H => .bit_3_H
  | 3, .reg .L => .bit_3_L
  | 3, .atHL => .bit_3_atHL
  | 3, .reg .A => .bit_3_A
  | 4, .reg .B => .bit_4_B
  | 4, .reg .C => .bit_4_C
  | 4, .reg .D => .bit_4_D
  | 4, .reg .E => .bit_4_E
  | 4, .reg .H => .bit_4_H
  | 4, .reg .L => .bit_4_L
  | 4, .atHL => .bit_4_atHL
  | 4, .reg .A => .bit_4_A
  | 5, .reg .B => .bit_5_B
  | 5, .reg .C => .bit_5_C
  | 5, .reg .D => .bit_5_D
  | 5, .reg .E => .bit_5_E
  | 5, .reg .H => .bit_5_H
  | 5, .reg .L => .bit_5_L
  | 5, .atHL => .bit_5_atHL
  | 5, .reg .A => .bit_5_A
  | 6, .reg .B => .bit_6_B
  | 6, .reg .C => .bit_6_C
  | 6, .reg .D => .bit_6_D
  | 6, .reg .E => .bit_6_E
  | 6, .reg .H => .bit_6_H
  | 6, .reg .L => .bit_6_L
  | 6, .atHL => .bit_6_atHL
  | 6, .reg .A => .bit_6_A
  | 7, .reg .B => .bit_7_B
  | 7, .reg .C => .bit_7_C
  | 7, .reg .D => .bit_7_D
  | 7, .reg .E => .bit_7_E
  | 7, .reg .H => .bit_7_H
  | 7, .reg .L => .bit_7_L
  | 7, .atHL => .bit_7_atHL
  | 7, .reg .A => .bit_7_A

/-- `RES n,r` and `RES n,[HL]` (46_extended_cb.md R309, R310). -/
def Instr.resOf (n : Fin 8) (o : Opnd8) : Instr :=
  match n, o with
  | 0, .reg .B => .res_0_B
  | 0, .reg .C => .res_0_C
  | 0, .reg .D => .res_0_D
  | 0, .reg .E => .res_0_E
  | 0, .reg .H => .res_0_H
  | 0, .reg .L => .res_0_L
  | 0, .atHL => .res_0_atHL
  | 0, .reg .A => .res_0_A
  | 1, .reg .B => .res_1_B
  | 1, .reg .C => .res_1_C
  | 1, .reg .D => .res_1_D
  | 1, .reg .E => .res_1_E
  | 1, .reg .H => .res_1_H
  | 1, .reg .L => .res_1_L
  | 1, .atHL => .res_1_atHL
  | 1, .reg .A => .res_1_A
  | 2, .reg .B => .res_2_B
  | 2, .reg .C => .res_2_C
  | 2, .reg .D => .res_2_D
  | 2, .reg .E => .res_2_E
  | 2, .reg .H => .res_2_H
  | 2, .reg .L => .res_2_L
  | 2, .atHL => .res_2_atHL
  | 2, .reg .A => .res_2_A
  | 3, .reg .B => .res_3_B
  | 3, .reg .C => .res_3_C
  | 3, .reg .D => .res_3_D
  | 3, .reg .E => .res_3_E
  | 3, .reg .H => .res_3_H
  | 3, .reg .L => .res_3_L
  | 3, .atHL => .res_3_atHL
  | 3, .reg .A => .res_3_A
  | 4, .reg .B => .res_4_B
  | 4, .reg .C => .res_4_C
  | 4, .reg .D => .res_4_D
  | 4, .reg .E => .res_4_E
  | 4, .reg .H => .res_4_H
  | 4, .reg .L => .res_4_L
  | 4, .atHL => .res_4_atHL
  | 4, .reg .A => .res_4_A
  | 5, .reg .B => .res_5_B
  | 5, .reg .C => .res_5_C
  | 5, .reg .D => .res_5_D
  | 5, .reg .E => .res_5_E
  | 5, .reg .H => .res_5_H
  | 5, .reg .L => .res_5_L
  | 5, .atHL => .res_5_atHL
  | 5, .reg .A => .res_5_A
  | 6, .reg .B => .res_6_B
  | 6, .reg .C => .res_6_C
  | 6, .reg .D => .res_6_D
  | 6, .reg .E => .res_6_E
  | 6, .reg .H => .res_6_H
  | 6, .reg .L => .res_6_L
  | 6, .atHL => .res_6_atHL
  | 6, .reg .A => .res_6_A
  | 7, .reg .B => .res_7_B
  | 7, .reg .C => .res_7_C
  | 7, .reg .D => .res_7_D
  | 7, .reg .E => .res_7_E
  | 7, .reg .H => .res_7_H
  | 7, .reg .L => .res_7_L
  | 7, .atHL => .res_7_atHL
  | 7, .reg .A => .res_7_A

/-- `SET n,r` and `SET n,[HL]` (46_extended_cb.md R311, R312). -/
def Instr.setOf (n : Fin 8) (o : Opnd8) : Instr :=
  match n, o with
  | 0, .reg .B => .set_0_B
  | 0, .reg .C => .set_0_C
  | 0, .reg .D => .set_0_D
  | 0, .reg .E => .set_0_E
  | 0, .reg .H => .set_0_H
  | 0, .reg .L => .set_0_L
  | 0, .atHL => .set_0_atHL
  | 0, .reg .A => .set_0_A
  | 1, .reg .B => .set_1_B
  | 1, .reg .C => .set_1_C
  | 1, .reg .D => .set_1_D
  | 1, .reg .E => .set_1_E
  | 1, .reg .H => .set_1_H
  | 1, .reg .L => .set_1_L
  | 1, .atHL => .set_1_atHL
  | 1, .reg .A => .set_1_A
  | 2, .reg .B => .set_2_B
  | 2, .reg .C => .set_2_C
  | 2, .reg .D => .set_2_D
  | 2, .reg .E => .set_2_E
  | 2, .reg .H => .set_2_H
  | 2, .reg .L => .set_2_L
  | 2, .atHL => .set_2_atHL
  | 2, .reg .A => .set_2_A
  | 3, .reg .B => .set_3_B
  | 3, .reg .C => .set_3_C
  | 3, .reg .D => .set_3_D
  | 3, .reg .E => .set_3_E
  | 3, .reg .H => .set_3_H
  | 3, .reg .L => .set_3_L
  | 3, .atHL => .set_3_atHL
  | 3, .reg .A => .set_3_A
  | 4, .reg .B => .set_4_B
  | 4, .reg .C => .set_4_C
  | 4, .reg .D => .set_4_D
  | 4, .reg .E => .set_4_E
  | 4, .reg .H => .set_4_H
  | 4, .reg .L => .set_4_L
  | 4, .atHL => .set_4_atHL
  | 4, .reg .A => .set_4_A
  | 5, .reg .B => .set_5_B
  | 5, .reg .C => .set_5_C
  | 5, .reg .D => .set_5_D
  | 5, .reg .E => .set_5_E
  | 5, .reg .H => .set_5_H
  | 5, .reg .L => .set_5_L
  | 5, .atHL => .set_5_atHL
  | 5, .reg .A => .set_5_A
  | 6, .reg .B => .set_6_B
  | 6, .reg .C => .set_6_C
  | 6, .reg .D => .set_6_D
  | 6, .reg .E => .set_6_E
  | 6, .reg .H => .set_6_H
  | 6, .reg .L => .set_6_L
  | 6, .atHL => .set_6_atHL
  | 6, .reg .A => .set_6_A
  | 7, .reg .B => .set_7_B
  | 7, .reg .C => .set_7_C
  | 7, .reg .D => .set_7_D
  | 7, .reg .E => .set_7_E
  | 7, .reg .H => .set_7_H
  | 7, .reg .L => .set_7_L
  | 7, .atHL => .set_7_atHL
  | 7, .reg .A => .set_7_A

/-- The instruction of a form: the inverse of `Instr.form`. -/
def Form.instr : Form → Instr
  | .ldRR d r => Instr.ldRROf d r
  | .ldRI d d8 => Instr.ldRIOf d d8
  | .ldPI rr d16 => Instr.ldPIOf rr d16
  | .ldRM d => Instr.ldRMOf d
  | .ldMR r => Instr.ldMROf r
  | .stAcc m => Instr.stAccOf m
  | .ldAcc m => Instr.ldAccOf m
  | .inc8 o => Instr.inc8Of o
  | .dec8 o => Instr.dec8Of o
  | .alu op o => Instr.aluOf op o
  | .aluI op d8 => Instr.aluIOf op d8
  | .inc16 rr => Instr.inc16Of rr
  | .dec16 rr => Instr.dec16Of rr
  | .addHL rr => Instr.addHLOf rr
  | .push rr => Instr.pushOf rr
  | .pop rr => Instr.popOf rr
  | .jpC cc a16 => Instr.jpCOf cc a16
  | .jrC cc r8 => Instr.jrCOf cc r8
  | .callC cc a16 => Instr.callCOf cc a16
  | .retC cc => Instr.retCOf cc
  | .rst t => Instr.rstOf t
  | .unused u => Instr.unusedOf u
  | .rot op o => Instr.rotOf op o
  | .bit n o => Instr.bitOf n o
  | .res n o => Instr.resOf n o
  | .set n o => Instr.setOf n o
  | .ldMI d8 => .ld_atHL_d8 d8
  | .stSP a16 => .ld_atA16_SP a16
  | .ldHLSP => .ld_HL_SP
  | .ldHLSPr8 r8 => .ld_HL_SPr8 r8
  | .addSPr8 r8 => .add_SP_r8 r8
  | .daa => .daa
  | .cpl => .cpl
  | .scf => .scf
  | .ccf => .ccf
  | .rlca => .rlca
  | .rla => .rla
  | .rrca => .rrca
  | .rra => .rra
  | .jp a16 => .jp_a16 a16
  | .jpHL => .jp_HL
  | .jr r8 => .jr_r8 r8
  | .call a16 => .call_a16 a16
  | .ret => .ret
  | .reti => .reti
  | .ei => .ei
  | .di => .di
  | .nop => .nop
  | .halt => .halt
  | .stop => .stop
  | .prefixCB op2 => .prefixCB op2

/-- The form of an instruction: its family with the fields of its opcode as operands (30_encoding.md R82 to R89). -/
def Instr.form : Instr → Form
  | .nop => .nop
  | .ld_BC_d16 d16 => .ldPI .BC d16
  | .ld_atBC_A => .stAcc .atBC
  | .inc_BC => .inc16 .BC
  | .inc_B => .inc8 (.reg .B)
  | .dec_B => .dec8 (.reg .B)
  | .ld_B_d8 d8 => .ldRI .B d8
  | .rlca => .rlca
  | .ld_atA16_SP a16 => .stSP a16
  | .add_HL_BC => .addHL .BC
  | .ld_A_atBC => .ldAcc .atBC
  | .dec_BC => .dec16 .BC
  | .inc_C => .inc8 (.reg .C)
  | .dec_C => .dec8 (.reg .C)
  | .ld_C_d8 d8 => .ldRI .C d8
  | .rrca => .rrca
  | .stop => .stop
  | .ld_DE_d16 d16 => .ldPI .DE d16
  | .ld_atDE_A => .stAcc .atDE
  | .inc_DE => .inc16 .DE
  | .inc_D => .inc8 (.reg .D)
  | .dec_D => .dec8 (.reg .D)
  | .ld_D_d8 d8 => .ldRI .D d8
  | .rla => .rla
  | .jr_r8 r8 => .jr r8
  | .add_HL_DE => .addHL .DE
  | .ld_A_atDE => .ldAcc .atDE
  | .dec_DE => .dec16 .DE
  | .inc_E => .inc8 (.reg .E)
  | .dec_E => .dec8 (.reg .E)
  | .ld_E_d8 d8 => .ldRI .E d8
  | .rra => .rra
  | .jr_NZ_r8 r8 => .jrC .NZ r8
  | .ld_HL_d16 d16 => .ldPI .HL d16
  | .ld_atHLinc_A => .stAcc .atHLinc
  | .inc_HL => .inc16 .HL
  | .inc_H => .inc8 (.reg .H)
  | .dec_H => .dec8 (.reg .H)
  | .ld_H_d8 d8 => .ldRI .H d8
  | .daa => .daa
  | .jr_Z_r8 r8 => .jrC .Z r8
  | .add_HL_HL => .addHL .HL
  | .ld_A_atHLinc => .ldAcc .atHLinc
  | .dec_HL => .dec16 .HL
  | .inc_L => .inc8 (.reg .L)
  | .dec_L => .dec8 (.reg .L)
  | .ld_L_d8 d8 => .ldRI .L d8
  | .cpl => .cpl
  | .jr_NC_r8 r8 => .jrC .NC r8
  | .ld_SP_d16 d16 => .ldPI .SP d16
  | .ld_atHLdec_A => .stAcc .atHLdec
  | .inc_SP => .inc16 .SP
  | .inc_atHL => .inc8 .atHL
  | .dec_atHL => .dec8 .atHL
  | .ld_atHL_d8 d8 => .ldMI d8
  | .scf => .scf
  | .jr_C_r8 r8 => .jrC .C r8
  | .add_HL_SP => .addHL .SP
  | .ld_A_atHLdec => .ldAcc .atHLdec
  | .dec_SP => .dec16 .SP
  | .inc_A => .inc8 (.reg .A)
  | .dec_A => .dec8 (.reg .A)
  | .ld_A_d8 d8 => .ldRI .A d8
  | .ccf => .ccf
  | .ld_B_B => .ldRR .B .B
  | .ld_B_C => .ldRR .B .C
  | .ld_B_D => .ldRR .B .D
  | .ld_B_E => .ldRR .B .E
  | .ld_B_H => .ldRR .B .H
  | .ld_B_L => .ldRR .B .L
  | .ld_B_atHL => .ldRM .B
  | .ld_B_A => .ldRR .B .A
  | .ld_C_B => .ldRR .C .B
  | .ld_C_C => .ldRR .C .C
  | .ld_C_D => .ldRR .C .D
  | .ld_C_E => .ldRR .C .E
  | .ld_C_H => .ldRR .C .H
  | .ld_C_L => .ldRR .C .L
  | .ld_C_atHL => .ldRM .C
  | .ld_C_A => .ldRR .C .A
  | .ld_D_B => .ldRR .D .B
  | .ld_D_C => .ldRR .D .C
  | .ld_D_D => .ldRR .D .D
  | .ld_D_E => .ldRR .D .E
  | .ld_D_H => .ldRR .D .H
  | .ld_D_L => .ldRR .D .L
  | .ld_D_atHL => .ldRM .D
  | .ld_D_A => .ldRR .D .A
  | .ld_E_B => .ldRR .E .B
  | .ld_E_C => .ldRR .E .C
  | .ld_E_D => .ldRR .E .D
  | .ld_E_E => .ldRR .E .E
  | .ld_E_H => .ldRR .E .H
  | .ld_E_L => .ldRR .E .L
  | .ld_E_atHL => .ldRM .E
  | .ld_E_A => .ldRR .E .A
  | .ld_H_B => .ldRR .H .B
  | .ld_H_C => .ldRR .H .C
  | .ld_H_D => .ldRR .H .D
  | .ld_H_E => .ldRR .H .E
  | .ld_H_H => .ldRR .H .H
  | .ld_H_L => .ldRR .H .L
  | .ld_H_atHL => .ldRM .H
  | .ld_H_A => .ldRR .H .A
  | .ld_L_B => .ldRR .L .B
  | .ld_L_C => .ldRR .L .C
  | .ld_L_D => .ldRR .L .D
  | .ld_L_E => .ldRR .L .E
  | .ld_L_H => .ldRR .L .H
  | .ld_L_L => .ldRR .L .L
  | .ld_L_atHL => .ldRM .L
  | .ld_L_A => .ldRR .L .A
  | .ld_atHL_B => .ldMR .B
  | .ld_atHL_C => .ldMR .C
  | .ld_atHL_D => .ldMR .D
  | .ld_atHL_E => .ldMR .E
  | .ld_atHL_H => .ldMR .H
  | .ld_atHL_L => .ldMR .L
  | .halt => .halt
  | .ld_atHL_A => .ldMR .A
  | .ld_A_B => .ldRR .A .B
  | .ld_A_C => .ldRR .A .C
  | .ld_A_D => .ldRR .A .D
  | .ld_A_E => .ldRR .A .E
  | .ld_A_H => .ldRR .A .H
  | .ld_A_L => .ldRR .A .L
  | .ld_A_atHL => .ldRM .A
  | .ld_A_A => .ldRR .A .A
  | .add_A_B => .alu .add (.reg .B)
  | .add_A_C => .alu .add (.reg .C)
  | .add_A_D => .alu .add (.reg .D)
  | .add_A_E => .alu .add (.reg .E)
  | .add_A_H => .alu .add (.reg .H)
  | .add_A_L => .alu .add (.reg .L)
  | .add_A_atHL => .alu .add .atHL
  | .add_A_A => .alu .add (.reg .A)
  | .adc_A_B => .alu .adc (.reg .B)
  | .adc_A_C => .alu .adc (.reg .C)
  | .adc_A_D => .alu .adc (.reg .D)
  | .adc_A_E => .alu .adc (.reg .E)
  | .adc_A_H => .alu .adc (.reg .H)
  | .adc_A_L => .alu .adc (.reg .L)
  | .adc_A_atHL => .alu .adc .atHL
  | .adc_A_A => .alu .adc (.reg .A)
  | .sub_A_B => .alu .sub (.reg .B)
  | .sub_A_C => .alu .sub (.reg .C)
  | .sub_A_D => .alu .sub (.reg .D)
  | .sub_A_E => .alu .sub (.reg .E)
  | .sub_A_H => .alu .sub (.reg .H)
  | .sub_A_L => .alu .sub (.reg .L)
  | .sub_A_atHL => .alu .sub .atHL
  | .sub_A_A => .alu .sub (.reg .A)
  | .sbc_A_B => .alu .sbc (.reg .B)
  | .sbc_A_C => .alu .sbc (.reg .C)
  | .sbc_A_D => .alu .sbc (.reg .D)
  | .sbc_A_E => .alu .sbc (.reg .E)
  | .sbc_A_H => .alu .sbc (.reg .H)
  | .sbc_A_L => .alu .sbc (.reg .L)
  | .sbc_A_atHL => .alu .sbc .atHL
  | .sbc_A_A => .alu .sbc (.reg .A)
  | .and_A_B => .alu .and (.reg .B)
  | .and_A_C => .alu .and (.reg .C)
  | .and_A_D => .alu .and (.reg .D)
  | .and_A_E => .alu .and (.reg .E)
  | .and_A_H => .alu .and (.reg .H)
  | .and_A_L => .alu .and (.reg .L)
  | .and_A_atHL => .alu .and .atHL
  | .and_A_A => .alu .and (.reg .A)
  | .xor_A_B => .alu .xor (.reg .B)
  | .xor_A_C => .alu .xor (.reg .C)
  | .xor_A_D => .alu .xor (.reg .D)
  | .xor_A_E => .alu .xor (.reg .E)
  | .xor_A_H => .alu .xor (.reg .H)
  | .xor_A_L => .alu .xor (.reg .L)
  | .xor_A_atHL => .alu .xor .atHL
  | .xor_A_A => .alu .xor (.reg .A)
  | .or_A_B => .alu .or (.reg .B)
  | .or_A_C => .alu .or (.reg .C)
  | .or_A_D => .alu .or (.reg .D)
  | .or_A_E => .alu .or (.reg .E)
  | .or_A_H => .alu .or (.reg .H)
  | .or_A_L => .alu .or (.reg .L)
  | .or_A_atHL => .alu .or .atHL
  | .or_A_A => .alu .or (.reg .A)
  | .cp_A_B => .alu .cp (.reg .B)
  | .cp_A_C => .alu .cp (.reg .C)
  | .cp_A_D => .alu .cp (.reg .D)
  | .cp_A_E => .alu .cp (.reg .E)
  | .cp_A_H => .alu .cp (.reg .H)
  | .cp_A_L => .alu .cp (.reg .L)
  | .cp_A_atHL => .alu .cp .atHL
  | .cp_A_A => .alu .cp (.reg .A)
  | .ret_NZ => .retC .NZ
  | .pop_BC => .pop .BC
  | .jp_NZ_a16 a16 => .jpC .NZ a16
  | .jp_a16 a16 => .jp a16
  | .call_NZ_a16 a16 => .callC .NZ a16
  | .push_BC => .push .BC
  | .add_A_d8 d8 => .aluI .add d8
  | .rst_00 => .rst 0
  | .ret_Z => .retC .Z
  | .ret => .ret
  | .jp_Z_a16 a16 => .jpC .Z a16
  | .prefixCB op2 => .prefixCB op2
  | .call_Z_a16 a16 => .callC .Z a16
  | .call_a16 a16 => .call a16
  | .adc_A_d8 d8 => .aluI .adc d8
  | .rst_08 => .rst 1
  | .ret_NC => .retC .NC
  | .pop_DE => .pop .DE
  | .jp_NC_a16 a16 => .jpC .NC a16
  | .unused_D3 => .unused .xD3
  | .call_NC_a16 a16 => .callC .NC a16
  | .push_DE => .push .DE
  | .sub_A_d8 d8 => .aluI .sub d8
  | .rst_10 => .rst 2
  | .ret_C => .retC .C
  | .reti => .reti
  | .jp_C_a16 a16 => .jpC .C a16
  | .unused_DB => .unused .xDB
  | .call_C_a16 a16 => .callC .C a16
  | .unused_DD => .unused .xDD
  | .sbc_A_d8 d8 => .aluI .sbc d8
  | .rst_18 => .rst 3
  | .ld_highA8_A a8 => .stAcc (.highA8 a8)
  | .pop_HL => .pop .HL
  | .ld_highC_A => .stAcc .highC
  | .unused_E3 => .unused .xE3
  | .unused_E4 => .unused .xE4
  | .push_HL => .push .HL
  | .and_A_d8 d8 => .aluI .and d8
  | .rst_20 => .rst 4
  | .add_SP_r8 r8 => .addSPr8 r8
  | .jp_HL => .jpHL
  | .ld_atA16_A a16 => .stAcc (.atA16 a16)
  | .unused_EB => .unused .xEB
  | .unused_EC => .unused .xEC
  | .unused_ED => .unused .xED
  | .xor_A_d8 d8 => .aluI .xor d8
  | .rst_28 => .rst 5
  | .ld_A_highA8 a8 => .ldAcc (.highA8 a8)
  | .pop_AF => .pop .AF
  | .ld_A_highC => .ldAcc .highC
  | .di => .di
  | .unused_F4 => .unused .xF4
  | .push_AF => .push .AF
  | .or_A_d8 d8 => .aluI .or d8
  | .rst_30 => .rst 6
  | .ld_HL_SPr8 r8 => .ldHLSPr8 r8
  | .ld_HL_SP => .ldHLSP
  | .ld_A_atA16 a16 => .ldAcc (.atA16 a16)
  | .ei => .ei
  | .unused_FC => .unused .xFC
  | .unused_FD => .unused .xFD
  | .cp_A_d8 d8 => .aluI .cp d8
  | .rst_38 => .rst 7
  | .rlc_B => .rot .rlc (.reg .B)
  | .rlc_C => .rot .rlc (.reg .C)
  | .rlc_D => .rot .rlc (.reg .D)
  | .rlc_E => .rot .rlc (.reg .E)
  | .rlc_H => .rot .rlc (.reg .H)
  | .rlc_L => .rot .rlc (.reg .L)
  | .rlc_atHL => .rot .rlc .atHL
  | .rlc_A => .rot .rlc (.reg .A)
  | .rrc_B => .rot .rrc (.reg .B)
  | .rrc_C => .rot .rrc (.reg .C)
  | .rrc_D => .rot .rrc (.reg .D)
  | .rrc_E => .rot .rrc (.reg .E)
  | .rrc_H => .rot .rrc (.reg .H)
  | .rrc_L => .rot .rrc (.reg .L)
  | .rrc_atHL => .rot .rrc .atHL
  | .rrc_A => .rot .rrc (.reg .A)
  | .rl_B => .rot .rl (.reg .B)
  | .rl_C => .rot .rl (.reg .C)
  | .rl_D => .rot .rl (.reg .D)
  | .rl_E => .rot .rl (.reg .E)
  | .rl_H => .rot .rl (.reg .H)
  | .rl_L => .rot .rl (.reg .L)
  | .rl_atHL => .rot .rl .atHL
  | .rl_A => .rot .rl (.reg .A)
  | .rr_B => .rot .rr (.reg .B)
  | .rr_C => .rot .rr (.reg .C)
  | .rr_D => .rot .rr (.reg .D)
  | .rr_E => .rot .rr (.reg .E)
  | .rr_H => .rot .rr (.reg .H)
  | .rr_L => .rot .rr (.reg .L)
  | .rr_atHL => .rot .rr .atHL
  | .rr_A => .rot .rr (.reg .A)
  | .sla_B => .rot .sla (.reg .B)
  | .sla_C => .rot .sla (.reg .C)
  | .sla_D => .rot .sla (.reg .D)
  | .sla_E => .rot .sla (.reg .E)
  | .sla_H => .rot .sla (.reg .H)
  | .sla_L => .rot .sla (.reg .L)
  | .sla_atHL => .rot .sla .atHL
  | .sla_A => .rot .sla (.reg .A)
  | .sra_B => .rot .sra (.reg .B)
  | .sra_C => .rot .sra (.reg .C)
  | .sra_D => .rot .sra (.reg .D)
  | .sra_E => .rot .sra (.reg .E)
  | .sra_H => .rot .sra (.reg .H)
  | .sra_L => .rot .sra (.reg .L)
  | .sra_atHL => .rot .sra .atHL
  | .sra_A => .rot .sra (.reg .A)
  | .swap_B => .rot .swap (.reg .B)
  | .swap_C => .rot .swap (.reg .C)
  | .swap_D => .rot .swap (.reg .D)
  | .swap_E => .rot .swap (.reg .E)
  | .swap_H => .rot .swap (.reg .H)
  | .swap_L => .rot .swap (.reg .L)
  | .swap_atHL => .rot .swap .atHL
  | .swap_A => .rot .swap (.reg .A)
  | .srl_B => .rot .srl (.reg .B)
  | .srl_C => .rot .srl (.reg .C)
  | .srl_D => .rot .srl (.reg .D)
  | .srl_E => .rot .srl (.reg .E)
  | .srl_H => .rot .srl (.reg .H)
  | .srl_L => .rot .srl (.reg .L)
  | .srl_atHL => .rot .srl .atHL
  | .srl_A => .rot .srl (.reg .A)
  | .bit_0_B => .bit 0 (.reg .B)
  | .bit_0_C => .bit 0 (.reg .C)
  | .bit_0_D => .bit 0 (.reg .D)
  | .bit_0_E => .bit 0 (.reg .E)
  | .bit_0_H => .bit 0 (.reg .H)
  | .bit_0_L => .bit 0 (.reg .L)
  | .bit_0_atHL => .bit 0 .atHL
  | .bit_0_A => .bit 0 (.reg .A)
  | .bit_1_B => .bit 1 (.reg .B)
  | .bit_1_C => .bit 1 (.reg .C)
  | .bit_1_D => .bit 1 (.reg .D)
  | .bit_1_E => .bit 1 (.reg .E)
  | .bit_1_H => .bit 1 (.reg .H)
  | .bit_1_L => .bit 1 (.reg .L)
  | .bit_1_atHL => .bit 1 .atHL
  | .bit_1_A => .bit 1 (.reg .A)
  | .bit_2_B => .bit 2 (.reg .B)
  | .bit_2_C => .bit 2 (.reg .C)
  | .bit_2_D => .bit 2 (.reg .D)
  | .bit_2_E => .bit 2 (.reg .E)
  | .bit_2_H => .bit 2 (.reg .H)
  | .bit_2_L => .bit 2 (.reg .L)
  | .bit_2_atHL => .bit 2 .atHL
  | .bit_2_A => .bit 2 (.reg .A)
  | .bit_3_B => .bit 3 (.reg .B)
  | .bit_3_C => .bit 3 (.reg .C)
  | .bit_3_D => .bit 3 (.reg .D)
  | .bit_3_E => .bit 3 (.reg .E)
  | .bit_3_H => .bit 3 (.reg .H)
  | .bit_3_L => .bit 3 (.reg .L)
  | .bit_3_atHL => .bit 3 .atHL
  | .bit_3_A => .bit 3 (.reg .A)
  | .bit_4_B => .bit 4 (.reg .B)
  | .bit_4_C => .bit 4 (.reg .C)
  | .bit_4_D => .bit 4 (.reg .D)
  | .bit_4_E => .bit 4 (.reg .E)
  | .bit_4_H => .bit 4 (.reg .H)
  | .bit_4_L => .bit 4 (.reg .L)
  | .bit_4_atHL => .bit 4 .atHL
  | .bit_4_A => .bit 4 (.reg .A)
  | .bit_5_B => .bit 5 (.reg .B)
  | .bit_5_C => .bit 5 (.reg .C)
  | .bit_5_D => .bit 5 (.reg .D)
  | .bit_5_E => .bit 5 (.reg .E)
  | .bit_5_H => .bit 5 (.reg .H)
  | .bit_5_L => .bit 5 (.reg .L)
  | .bit_5_atHL => .bit 5 .atHL
  | .bit_5_A => .bit 5 (.reg .A)
  | .bit_6_B => .bit 6 (.reg .B)
  | .bit_6_C => .bit 6 (.reg .C)
  | .bit_6_D => .bit 6 (.reg .D)
  | .bit_6_E => .bit 6 (.reg .E)
  | .bit_6_H => .bit 6 (.reg .H)
  | .bit_6_L => .bit 6 (.reg .L)
  | .bit_6_atHL => .bit 6 .atHL
  | .bit_6_A => .bit 6 (.reg .A)
  | .bit_7_B => .bit 7 (.reg .B)
  | .bit_7_C => .bit 7 (.reg .C)
  | .bit_7_D => .bit 7 (.reg .D)
  | .bit_7_E => .bit 7 (.reg .E)
  | .bit_7_H => .bit 7 (.reg .H)
  | .bit_7_L => .bit 7 (.reg .L)
  | .bit_7_atHL => .bit 7 .atHL
  | .bit_7_A => .bit 7 (.reg .A)
  | .res_0_B => .res 0 (.reg .B)
  | .res_0_C => .res 0 (.reg .C)
  | .res_0_D => .res 0 (.reg .D)
  | .res_0_E => .res 0 (.reg .E)
  | .res_0_H => .res 0 (.reg .H)
  | .res_0_L => .res 0 (.reg .L)
  | .res_0_atHL => .res 0 .atHL
  | .res_0_A => .res 0 (.reg .A)
  | .res_1_B => .res 1 (.reg .B)
  | .res_1_C => .res 1 (.reg .C)
  | .res_1_D => .res 1 (.reg .D)
  | .res_1_E => .res 1 (.reg .E)
  | .res_1_H => .res 1 (.reg .H)
  | .res_1_L => .res 1 (.reg .L)
  | .res_1_atHL => .res 1 .atHL
  | .res_1_A => .res 1 (.reg .A)
  | .res_2_B => .res 2 (.reg .B)
  | .res_2_C => .res 2 (.reg .C)
  | .res_2_D => .res 2 (.reg .D)
  | .res_2_E => .res 2 (.reg .E)
  | .res_2_H => .res 2 (.reg .H)
  | .res_2_L => .res 2 (.reg .L)
  | .res_2_atHL => .res 2 .atHL
  | .res_2_A => .res 2 (.reg .A)
  | .res_3_B => .res 3 (.reg .B)
  | .res_3_C => .res 3 (.reg .C)
  | .res_3_D => .res 3 (.reg .D)
  | .res_3_E => .res 3 (.reg .E)
  | .res_3_H => .res 3 (.reg .H)
  | .res_3_L => .res 3 (.reg .L)
  | .res_3_atHL => .res 3 .atHL
  | .res_3_A => .res 3 (.reg .A)
  | .res_4_B => .res 4 (.reg .B)
  | .res_4_C => .res 4 (.reg .C)
  | .res_4_D => .res 4 (.reg .D)
  | .res_4_E => .res 4 (.reg .E)
  | .res_4_H => .res 4 (.reg .H)
  | .res_4_L => .res 4 (.reg .L)
  | .res_4_atHL => .res 4 .atHL
  | .res_4_A => .res 4 (.reg .A)
  | .res_5_B => .res 5 (.reg .B)
  | .res_5_C => .res 5 (.reg .C)
  | .res_5_D => .res 5 (.reg .D)
  | .res_5_E => .res 5 (.reg .E)
  | .res_5_H => .res 5 (.reg .H)
  | .res_5_L => .res 5 (.reg .L)
  | .res_5_atHL => .res 5 .atHL
  | .res_5_A => .res 5 (.reg .A)
  | .res_6_B => .res 6 (.reg .B)
  | .res_6_C => .res 6 (.reg .C)
  | .res_6_D => .res 6 (.reg .D)
  | .res_6_E => .res 6 (.reg .E)
  | .res_6_H => .res 6 (.reg .H)
  | .res_6_L => .res 6 (.reg .L)
  | .res_6_atHL => .res 6 .atHL
  | .res_6_A => .res 6 (.reg .A)
  | .res_7_B => .res 7 (.reg .B)
  | .res_7_C => .res 7 (.reg .C)
  | .res_7_D => .res 7 (.reg .D)
  | .res_7_E => .res 7 (.reg .E)
  | .res_7_H => .res 7 (.reg .H)
  | .res_7_L => .res 7 (.reg .L)
  | .res_7_atHL => .res 7 .atHL
  | .res_7_A => .res 7 (.reg .A)
  | .set_0_B => .set 0 (.reg .B)
  | .set_0_C => .set 0 (.reg .C)
  | .set_0_D => .set 0 (.reg .D)
  | .set_0_E => .set 0 (.reg .E)
  | .set_0_H => .set 0 (.reg .H)
  | .set_0_L => .set 0 (.reg .L)
  | .set_0_atHL => .set 0 .atHL
  | .set_0_A => .set 0 (.reg .A)
  | .set_1_B => .set 1 (.reg .B)
  | .set_1_C => .set 1 (.reg .C)
  | .set_1_D => .set 1 (.reg .D)
  | .set_1_E => .set 1 (.reg .E)
  | .set_1_H => .set 1 (.reg .H)
  | .set_1_L => .set 1 (.reg .L)
  | .set_1_atHL => .set 1 .atHL
  | .set_1_A => .set 1 (.reg .A)
  | .set_2_B => .set 2 (.reg .B)
  | .set_2_C => .set 2 (.reg .C)
  | .set_2_D => .set 2 (.reg .D)
  | .set_2_E => .set 2 (.reg .E)
  | .set_2_H => .set 2 (.reg .H)
  | .set_2_L => .set 2 (.reg .L)
  | .set_2_atHL => .set 2 .atHL
  | .set_2_A => .set 2 (.reg .A)
  | .set_3_B => .set 3 (.reg .B)
  | .set_3_C => .set 3 (.reg .C)
  | .set_3_D => .set 3 (.reg .D)
  | .set_3_E => .set 3 (.reg .E)
  | .set_3_H => .set 3 (.reg .H)
  | .set_3_L => .set 3 (.reg .L)
  | .set_3_atHL => .set 3 .atHL
  | .set_3_A => .set 3 (.reg .A)
  | .set_4_B => .set 4 (.reg .B)
  | .set_4_C => .set 4 (.reg .C)
  | .set_4_D => .set 4 (.reg .D)
  | .set_4_E => .set 4 (.reg .E)
  | .set_4_H => .set 4 (.reg .H)
  | .set_4_L => .set 4 (.reg .L)
  | .set_4_atHL => .set 4 .atHL
  | .set_4_A => .set 4 (.reg .A)
  | .set_5_B => .set 5 (.reg .B)
  | .set_5_C => .set 5 (.reg .C)
  | .set_5_D => .set 5 (.reg .D)
  | .set_5_E => .set 5 (.reg .E)
  | .set_5_H => .set 5 (.reg .H)
  | .set_5_L => .set 5 (.reg .L)
  | .set_5_atHL => .set 5 .atHL
  | .set_5_A => .set 5 (.reg .A)
  | .set_6_B => .set 6 (.reg .B)
  | .set_6_C => .set 6 (.reg .C)
  | .set_6_D => .set 6 (.reg .D)
  | .set_6_E => .set 6 (.reg .E)
  | .set_6_H => .set 6 (.reg .H)
  | .set_6_L => .set 6 (.reg .L)
  | .set_6_atHL => .set 6 .atHL
  | .set_6_A => .set 6 (.reg .A)
  | .set_7_B => .set 7 (.reg .B)
  | .set_7_C => .set 7 (.reg .C)
  | .set_7_D => .set 7 (.reg .D)
  | .set_7_E => .set 7 (.reg .E)
  | .set_7_H => .set 7 (.reg .H)
  | .set_7_L => .set 7 (.reg .L)
  | .set_7_atHL => .set 7 .atHL
  | .set_7_A => .set 7 (.reg .A)

/-! The fields of an opcode byte (30_encoding.md R82). -/

/-- `x = op[7:6]`. -/
def opX (op : Byte) : Nat := op.toNat / 64

/-- `y = op[5:3]`. -/
def opY (op : Byte) : Nat := op.toNat / 8 % 8

/-- `z = op[2:0]`. -/
def opZ (op : Byte) : Nat := op.toNat % 8

/-- `p = op[5:4]`. -/
def opP (op : Byte) : Nat := op.toNat / 16 % 4

/-- `q = op[3]`. -/
def opQ (op : Byte) : Nat := op.toNat / 8 % 2

/-- The `r` field's operand (30_encoding.md R83); a field is below 8. -/
def opnd8Of : Nat → Opnd8
  | 0 => .reg .B
  | 1 => .reg .C
  | 2 => .reg .D
  | 3 => .reg .E
  | 4 => .reg .H
  | 5 => .reg .L
  | 6 => .atHL
  | _ => .reg .A

/-- The `rr` field's pair (30_encoding.md R84); a field is below 4. -/
def pairOf : Nat → Pair
  | 0 => .BC
  | 1 => .DE
  | 2 => .HL
  | _ => .SP

/-- The stack-pair field's pair (30_encoding.md R85); a field is below 4. -/
def stackPairOf : Nat → StackPair
  | 0 => .BC
  | 1 => .DE
  | 2 => .HL
  | _ => .AF

/-- The condition field's condition (30_encoding.md R86); a field is below 4. -/
def condOf : Nat → Cond
  | 0 => .NZ
  | 1 => .Z
  | 2 => .NC
  | _ => .C

/-- The ALU operation field's operation (30_encoding.md R87); a field is below 8. -/
def aluOpOf : Nat → AluOp
  | 0 => .add
  | 1 => .adc
  | 2 => .sub
  | 3 => .sbc
  | 4 => .and
  | 5 => .xor
  | 6 => .or
  | _ => .cp

/-- The rotate field's operation (30_encoding.md R89); a field is below 8. -/
def rotOpOf : Nat → RotOp
  | 0 => .rlc
  | 1 => .rrc
  | 2 => .rl
  | 3 => .rr
  | 4 => .sla
  | 5 => .sra
  | 6 => .swap
  | _ => .srl

/-- A bit index or restart field as a number below 8. -/
def octOf (n : Nat) : Fin 8 := ⟨n % 8, Nat.mod_lt n (by decide)⟩

/-- `x = 0` of the base table, columns `z` (30_encoding.md R91). -/
def baseForm0 (op b1 b2 : Byte) : Form :=
  match opZ op with
  | 0 =>
    match opY op with
    | 0 => .nop
    | 1 => .stSP (mkWord b2 b1)
    | 2 => .stop
    | 3 => .jr b1
    | y => .jrC (condOf (y - 4)) b1
  | 1 => if opQ op = 0 then .ldPI (pairOf (opP op)) (mkWord b2 b1) else .addHL (pairOf (opP op))
  | 2 =>
    match opY op with
    | 0 => .stAcc .atBC
    | 1 => .ldAcc .atBC
    | 2 => .stAcc .atDE
    | 3 => .ldAcc .atDE
    | 4 => .stAcc .atHLinc
    | 5 => .ldAcc .atHLinc
    | 6 => .stAcc .atHLdec
    | _ => .ldAcc .atHLdec
  | 3 => if opQ op = 0 then .inc16 (pairOf (opP op)) else .dec16 (pairOf (opP op))
  | 4 => .inc8 (opnd8Of (opY op))
  | 5 => .dec8 (opnd8Of (opY op))
  | 6 =>
    match opnd8Of (opY op) with
    | .reg r => .ldRI r b1
    | .atHL => .ldMI b1
  | _ =>
    match opY op with
    | 0 => .rlca
    | 1 => .rrca
    | 2 => .rla
    | 3 => .rra
    | 4 => .daa
    | 5 => .cpl
    | 6 => .scf
    | _ => .ccf

/-- `x = 1` of the base table: `LD r,r'`, with HALT at `y = z = 6` (30_encoding.md R91). -/
def baseForm1 (op : Byte) : Form :=
  match opnd8Of (opY op), opnd8Of (opZ op) with
  | .reg d, .reg r => .ldRR d r
  | .reg d, .atHL => .ldRM d
  | .atHL, .reg r => .ldMR r
  | .atHL, .atHL => .halt

/-- `x = 3` of the base table, columns `z` (30_encoding.md R91). -/
def baseForm3 (op b1 b2 : Byte) : Form :=
  match opZ op with
  | 0 =>
    match opY op with
    | 4 => .stAcc (.highA8 b1)
    | 5 => .addSPr8 b1
    | 6 => .ldAcc (.highA8 b1)
    | 7 => .ldHLSPr8 b1
    | y => .retC (condOf y)
  | 1 =>
    if opQ op = 0 then .pop (stackPairOf (opP op))
    else
      match opP op with
      | 0 => .ret
      | 1 => .reti
      | 2 => .jpHL
      | _ => .ldHLSP
  | 2 =>
    match opY op with
    | 4 => .stAcc .highC
    | 5 => .stAcc (.atA16 (mkWord b2 b1))
    | 6 => .ldAcc .highC
    | 7 => .ldAcc (.atA16 (mkWord b2 b1))
    | y => .jpC (condOf y) (mkWord b2 b1)
  | 3 =>
    match opY op with
    | 0 => .jp (mkWord b2 b1)
    | 1 => .prefixCB b1
    | 2 => .unused .xD3
    | 3 => .unused .xDB
    | 4 => .unused .xE3
    | 5 => .unused .xEB
    | 6 => .di
    | _ => .ei
  | 4 =>
    match opY op with
    | 4 => .unused .xE4
    | 5 => .unused .xEC
    | 6 => .unused .xF4
    | 7 => .unused .xFC
    | y => .callC (condOf y) (mkWord b2 b1)
  | 5 =>
    if opQ op = 0 then .push (stackPairOf (opP op))
    else
      match opP op with
      | 0 => .call (mkWord b2 b1)
      | 1 => .unused .xDD
      | 2 => .unused .xED
      | _ => .unused .xFD
  | 6 => .aluI (aluOpOf (opY op)) b1
  | _ => .rst (octOf (opY op))

/-- The base table (30_encoding.md R91; 40_step_dispatch.md R112): the entry of an opcode byte, with the operand the next
two bytes would give it. -/
def baseForm (op b1 b2 : Byte) : Form :=
  match opX op with
  | 0 => baseForm0 op b1 b2
  | 1 => baseForm1 op
  | 2 => .alu (aluOpOf (opY op)) (opnd8Of (opZ op))
  | _ => baseForm3 op b1 b2

/-- The extended table (30_encoding.md R89, R92; 40_step_dispatch.md R113). -/
def extForm (op2 : Byte) : Form :=
  match opX op2 with
  | 0 => .rot (rotOpOf (opY op2)) (opnd8Of (opZ op2))
  | 1 => .bit (octOf (opY op2)) (opnd8Of (opZ op2))
  | 2 => .res (octOf (opY op2)) (opnd8Of (opZ op2))
  | _ => .set (octOf (opY op2)) (opnd8Of (opZ op2))

/-- Dual dispatch (40_step_dispatch.md R110): after `PREFIX_BYTE` the second byte selects in the extended table. -/
def decodeForm (b0 b1 b2 : Byte) : Form := if b0 = Config.prefixByte then extForm b1 else baseForm b0 b1 b2

/-- The instruction three bytes begin with. It never fails (30_encoding.md R99). -/
def decode3 (b0 b1 b2 : Byte) : Instr := (decodeForm b0 b1 b2).instr

/-! The encoder, from the same field tables. -/

/-- The `r` field of a register (30_encoding.md R83). -/
def Reg8.code : Reg8 → Nat
  | .B => 0
  | .C => 1
  | .D => 2
  | .E => 3
  | .H => 4
  | .L => 5
  | .A => 7

/-- The `r` field of an operand (30_encoding.md R83). -/
def Opnd8.code : Opnd8 → Nat
  | .reg r => r.code
  | .atHL => 6

/-- The `rr` field of a pair (30_encoding.md R84). -/
def Pair.code : Pair → Nat
  | .BC => 0
  | .DE => 1
  | .HL => 2
  | .SP => 3

/-- The stack-pair field of a pair (30_encoding.md R85). -/
def StackPair.code : StackPair → Nat
  | .BC => 0
  | .DE => 1
  | .HL => 2
  | .AF => 3

/-- The condition field of a condition (30_encoding.md R86). -/
def Cond.code : Cond → Nat
  | .NZ => 0
  | .Z => 1
  | .NC => 2
  | .C => 3

/-- The ALU operation field of an operation (30_encoding.md R87). -/
def AluOp.code : AluOp → Nat
  | .add => 0
  | .adc => 1
  | .sub => 2
  | .sbc => 3
  | .and => 4
  | .xor => 5
  | .or => 6
  | .cp => 7

/-- The rotate field of an operation (30_encoding.md R89). -/
def RotOp.code : RotOp → Nat
  | .rlc => 0
  | .rrc => 1
  | .rl => 2
  | .rr => 3
  | .sla => 4
  | .sra => 5
  | .swap => 6
  | .srl => 7

/-- The byte of an unused opcode (30_encoding.md R93). -/
def UnusedOp.byte : UnusedOp → Byte
  | .xD3 => 0xD3#8
  | .xDB => 0xDB#8
  | .xDD => 0xDD#8
  | .xE3 => 0xE3#8
  | .xE4 => 0xE4#8
  | .xEB => 0xEB#8
  | .xEC => 0xEC#8
  | .xED => 0xED#8
  | .xF4 => 0xF4#8
  | .xFC => 0xFC#8
  | .xFD => 0xFD#8

/-- An opcode byte written as a base value plus its fields. -/
def opByte (n : Nat) : Byte := BitVec.ofNat 8 n

/-- A 16-bit immediate after an opcode: low byte first (30_encoding.md R90). -/
def withWord (op : Byte) (w : Word) : List Byte := [op, lo8 w, hi8 w]

/-- An extended instruction's two bytes (30_encoding.md R81). -/
def withPrefix (n : Nat) : List Byte := [Config.prefixByte, opByte n]

/-- The bytes of an accumulator store (41_loads.md R136 to R149). -/
def AccMode.encodeStore : AccMode → List Byte
  | .atBC => [0x02#8]
  | .atDE => [0x12#8]
  | .atHLinc => [0x22#8]
  | .atHLdec => [0x32#8]
  | .atA16 a16 => withWord 0xEA#8 a16
  | .highA8 a8 => [0xE0#8, a8]
  | .highC => [0xE2#8]

/-- The bytes of an accumulator load (41_loads.md R138 to R150). -/
def AccMode.encodeLoad : AccMode → List Byte
  | .atBC => [0x0A#8]
  | .atDE => [0x1A#8]
  | .atHLinc => [0x2A#8]
  | .atHLdec => [0x3A#8]
  | .atA16 a16 => withWord 0xFA#8 a16
  | .highA8 a8 => [0xF0#8, a8]
  | .highC => [0xF2#8]

/-- The bytes of a form: the opcode formula of its rule, then its operand (30_encoding.md R81, R87 to R92; the Encoding
clause of each rule of files 41 to 46). -/
def Form.encode : Form → List Byte
  | .ldRR d r => [opByte (0x40 + 8 * d.code + r.code)]
  | .ldRI d d8 => [opByte (0x06 + 8 * d.code), d8]
  | .ldMI d8 => [0x36#8, d8]
  | .ldPI rr d16 => withWord (opByte (0x01 + 16 * rr.code)) d16
  | .ldRM d => [opByte (0x46 + 8 * d.code)]
  | .ldMR r => [opByte (0x70 + r.code)]
  | .stAcc m => m.encodeStore
  | .ldAcc m => m.encodeLoad
  | .stSP a16 => withWord 0x08#8 a16
  | .ldHLSP => [0xF9#8]
  | .ldHLSPr8 r8 => [0xF8#8, r8]
  | .addSPr8 r8 => [0xE8#8, r8]
  | .inc8 o => [opByte (0x04 + 8 * o.code)]
  | .dec8 o => [opByte (0x05 + 8 * o.code)]
  | .alu op o => [opByte (0x80 + 8 * op.code + o.code)]
  | .aluI op d8 => [opByte (0xC6 + 8 * op.code), d8]
  | .daa => [0x27#8]
  | .cpl => [0x2F#8]
  | .scf => [0x37#8]
  | .ccf => [0x3F#8]
  | .rlca => [0x07#8]
  | .rla => [0x17#8]
  | .rrca => [0x0F#8]
  | .rra => [0x1F#8]
  | .inc16 rr => [opByte (0x03 + 16 * rr.code)]
  | .dec16 rr => [opByte (0x0B + 16 * rr.code)]
  | .addHL rr => [opByte (0x09 + 16 * rr.code)]
  | .push rr => [opByte (0xC5 + 16 * rr.code)]
  | .pop rr => [opByte (0xC1 + 16 * rr.code)]
  | .jp a16 => withWord 0xC3#8 a16
  | .jpHL => [0xE9#8]
  | .jpC cc a16 => withWord (opByte (0xC2 + 8 * cc.code)) a16
  | .jr r8 => [0x18#8, r8]
  | .jrC cc r8 => [opByte (0x20 + 8 * cc.code), r8]
  | .call a16 => withWord 0xCD#8 a16
  | .callC cc a16 => withWord (opByte (0xC4 + 8 * cc.code)) a16
  | .ret => [0xC9#8]
  | .retC cc => [opByte (0xC0 + 8 * cc.code)]
  | .reti => [0xD9#8]
  | .rst t => [opByte (0xC7 + 8 * t.val)]
  | .ei => [0xFB#8]
  | .di => [0xF3#8]
  | .nop => [0x00#8]
  | .halt => [0x76#8]
  | .stop => [0x10#8]
  | .unused u => [u.byte]
  | .prefixCB op2 => [Config.prefixByte, op2]
  | .rot op o => withPrefix (0x00 + 8 * op.code + o.code)
  | .bit n o => withPrefix (0x40 + 8 * n.val + o.code)
  | .res n o => withPrefix (0x80 + 8 * n.val + o.code)
  | .set n o => withPrefix (0xC0 + 8 * n.val + o.code)

/-- The bytes of an instruction, the first at the lowest address. -/
def encode (i : Instr) : List Byte := i.form.encode

/-- How many bytes the instruction that begins with an opcode byte takes (30_encoding.md R95: byte 0 decides). -/
def lengthOf (b0 : Byte) : Nat := ((decodeForm b0 0#8 0#8).encode).length

/-- Why a list of bytes is no instruction: it ends before the instruction does. -/
inductive DecodeError where
  /-- The list is empty. -/
  | noBytes
  /-- The list ends inside an instruction that takes `need` bytes. -/
  | truncated (need : Nat)
  deriving DecidableEq, Repr

/-- Decoding a list of bytes: the instruction at its head and the bytes after it. -/
def decode : List Byte → Except DecodeError (Instr × List Byte)
  | [] => .error .noBytes
  | b0 :: rest =>
    if rest.length + 1 < lengthOf b0 then .error (.truncated (lengthOf b0))
    else .ok (decode3 b0 (rest.getD 0 0#8) (rest.getD 1 0#8), rest.drop (lengthOf b0 - 1))

/-- The three bytes of an instruction given as a number the way spec/opcode_table.json numbers it: byte 0 in bits 7 to 0
and later bytes above it; but an extended row's number is `{byte 0, byte 1}` with 0xCB in the high half (30_encoding.md R98;
log 23). Bits above the row's are zero. -/
def tableBytes (nbits w : Nat) : Byte × Byte × Byte :=
  let v := w % 2 ^ nbits
  if nbits = 16 ∧ v / 256 = Config.prefixByte.toNat then (Config.prefixByte, BitVec.ofNat 8 v, 0#8)
  else (BitVec.ofNat 8 v, BitVec.ofNat 8 (v / 256), BitVec.ofNat 8 (v / 65536))

/-- The instruction the decoder reads from a word numbered as spec/opcode_table.json numbers it. -/
def decodeTableWord (nbits w : Nat) : Option Instr :=
  let b := tableBytes nbits w
  some (decode3 b.1 b.2.1 b.2.2)

end Sys2Proof
end

