-- ==== Sys2Proof/Machine/State.lean ====
section
/-! DEFINITION. The state of the machine as plain data (10_state.md R20), the stops a step could have (none: R334 of
60_exceptions.md), and the state right after reset (R34). -/
namespace Sys2Proof.Machine

/-- The memory behind the bus (20_memory.md R50): the address and byte of every byte that differs from
`Config.unwrittenByte`, addresses strictly rising. -/
abbrev Memory := List Host.Cell

/-- A range of addresses, both ends included. -/
structure AddrRange where
  lo : Nat
  hi : Nat
  deriving DecidableEq, Repr

/-- The bus the core is attached to, as plain data: an instance of the BUS parameter (00_scope.md R6; 20_memory.md R51, R56,
R57, R67; log 3). -/
structure Bus where
  /-- The address ranges that are plain memory: a read answers the byte the memory holds. At every other address the bus
  answers what it likes. -/
  ram : List AddrRange
  /-- The address ranges in which a write does not take effect (R56). -/
  nonWritable : List AddrRange
  /-- What the bus answers to the coming reads outside `ram`, in order; after the last of them it answers
  `Config.busAnswer`. -/
  answers : List Byte
  /-- Every access outside `ram` so far, newest first: what the answer of `Config.busAnswer` may depend on. -/
  history : List Access
  deriving DecidableEq, Repr

/-- The reference instance, flat RAM (20_memory.md R67): every address is memory and takes every write. -/
def Bus.flat : Bus := { ram := [⟨0, 0xFFFF⟩], nonWritable := [], answers := [], history := [] }

/-- The four flags of `F` (10_state.md R24). -/
inductive Flag where
  /-- Zero, bit 7. -/
  | Z
  /-- Subtract, bit 6. -/
  | N
  /-- HalfCarry, bit 5. -/
  | H
  /-- Carry, bit 4. -/
  | C
  deriving DecidableEq, Repr

/-- The machine's state. From `a` to `lastClockM` it is the register file, which 10_state.md R20 says is the whole
architectural state; `mem` is the memory behind the bus (20_memory.md R50); the last three fields are the model's own
(logs 3, 4, 5). -/
structure State where
  /-- Accumulator (R20, R21). -/
  a : Byte
  b : Byte
  c : Byte
  d : Byte
  e : Byte
  /-- Flag register: Z N H C in bits 7 6 5 4, low nibble zero (R24). -/
  f : Byte
  h : Byte
  l : Byte
  /-- Program counter (R26). -/
  pc : Word
  /-- Stack pointer (R27). -/
  sp : Word
  /-- `InterruptEnable` (R29). -/
  ime : Bool
  /-- T-cycles of the last instruction (R30); unbounded, log 18. -/
  lastClockT : Nat
  /-- M-cycles of the last instruction (R30). -/
  lastClockM : Nat
  /-- Memory behind the bus, canonical (20_memory.md R50, R67). -/
  mem : Memory
  /-- The bus between the core and that memory (20_memory.md R51); log 3. -/
  bus : Bus
  /-- The bus accesses issued since the step began, oldest first (20_memory.md R58); log 4. -/
  accesses : List Access
  /-- The optional strobe of a step that runs an unused opcode (60_exceptions.md R332); log 5. -/
  unusedWarn : Bool
  deriving DecidableEq, Repr

/-- The faults of a step: none. "No handler throws" (40_step_dispatch.md R117; 60_exceptions.md R320, R334). Nobody raises
one, and nothing is hidden by that: the type has no value. -/
inductive Fault where
  deriving DecidableEq, Repr

/-- The refusals of a step. -/
inductive Refusal where
  /-- Raised by an arm of `exec` whose instruction has no meaning yet, with the instruction's mnemonic; no arm does so. Safe:
  the machine stops where the hardware goes on. -/
  | notModelled (mnemonic : String)
  deriving DecidableEq, Repr

/-- What a meaning and a step answer. -/
abbrev Result := Host.Outcome State Fault Refusal

/-- The register file of RESET_STATE (10_state.md R34) over a given memory and bus: reset touches no memory. -/
def State.ofReset (r : Config.ResetRecord) (mem : Memory) (bus : Bus) : State :=
  { a := r.a, b := r.b, c := r.c, d := r.d, e := r.e, f := r.f, h := r.h, l := r.l, pc := r.pc, sp := r.sp,
    ime := r.ime, lastClockT := r.lastClockT, lastClockM := r.lastClockT / 4, mem := mem,
    bus := bus, accesses := [], unusedWarn := false }

/-- The machine right after reset: RESET_STATE at the model's values (log 1), memory with nothing listed (log 2), the flat
RAM bus of 20_memory.md R67 (log 3). -/
def State.reset : State := State.ofReset Config.resetRecord [] Bus.flat

end Sys2Proof.Machine
end

