-- ==== Sys2Proof/Machine/Flags.lean ====
section
/-! DEFINITION. The flag register and every flag computation of the spec: the four flags of `F` (10_state.md R24), the
addition and subtraction functions (42_alu8.md R171, R172), the displacement sum (43_alu16.md R210), the 16-bit sum (R215),
DAA (R201) and the rotate, shift and bit functions (46_extended_cb.md R282 to R289). Sums are formed on naturals and
narrowed at the end, so a carry is a comparison (00_scope.md R7). -/
namespace Sys2Proof.Machine

/-- The bit of `F` that holds a flag (10_state.md R24). -/
def Flag.bit : Flag → Nat
  | .Z => 7
  | .N => 6
  | .H => 5
  | .C => 4

/-- Reading a flag out of a value of `F`. -/
def getFlag (fl : Flag) (f : Byte) : Bool := f.getLsbD fl.bit

/-- "Writing a flag writes only its bit" (10_state.md R24; in a state whose low nibble is not zero too, log 21). -/
def putFlag (fl : Flag) (v : Bool) (f : Byte) : Byte :=
  if v then f ||| (1#8 <<< fl.bit) else f &&& ~~~(1#8 <<< fl.bit)

/-- `bool(x)` of 00_scope.md R7 for a one-bit value that enters a sum. -/
def bitNat (b : Bool) : Nat := if b then 1 else 0

/-- An 8-bit result with the four flags an arithmetic or logic operation computes. -/
structure Alu8 where
  res : Byte
  z : Bool
  n : Bool
  h : Bool
  c : Bool
  deriving DecidableEq, Repr

/-- `add8` (42_alu8.md R171); the carry-in enters both flag sums (log 14). -/
def add8 (a b : Byte) (cin : Bool) : Alu8 :=
  let sum := a.toNat + b.toNat + bitNat cin
  { res := BitVec.ofNat 8 sum
    z := decide (sum % 256 = 0)
    n := false
    h := decide ((a &&& 0x0F#8).toNat + (b &&& 0x0F#8).toNat + bitNat cin > 0x0F)
    c := decide (sum > 0xFF) }

/-- `sub8` (42_alu8.md R172); the borrow-in is added to the subtrahend side of both comparisons (log 14). -/
def sub8 (a b : Byte) (cin : Bool) : Alu8 :=
  let res := BitVec.ofInt 8 ((a.toNat : Int) - (b.toNat : Int) - (bitNat cin : Int))
  { res := res
    z := decide (res = 0#8)
    n := true
    h := decide ((a &&& 0x0F#8).toNat < (b &&& 0x0F#8).toNat + bitNat cin)
    c := decide (a.toNat < b.toNat + bitNat cin) }

/-- The flags of `AND` (42_alu8.md R192): Z from the result, H set. -/
def and8 (a b : Byte) : Alu8 :=
  { res := a &&& b, z := decide (a &&& b = 0#8), n := false, h := true, c := false }

/-- The flags of `OR` (42_alu8.md R195): Z from the result, the rest clear. -/
def or8 (a b : Byte) : Alu8 :=
  { res := a ||| b, z := decide (a ||| b = 0#8), n := false, h := false, c := false }

/-- The flags of `XOR` (42_alu8.md R198): Z from the result, the rest clear. -/
def xor8 (a b : Byte) : Alu8 :=
  { res := a ^^^ b, z := decide (a ^^^ b = 0#8), n := false, h := false, c := false }

/-- The function behind each accumulator operation, given the incoming carry flag (42_alu8.md R177 to R200). -/
def alu8 (op : AluOp) (a b : Byte) (carry : Bool) : Alu8 :=
  match op with
  | .add => add8 a b false
  | .adc => add8 a b carry
  | .sub => sub8 a b false
  | .sbc => sub8 a b carry
  | .and => and8 a b
  | .xor => xor8 a b
  | .or => or8 a b
  | .cp => sub8 a b false

/-- Half carry of an 8-bit increment (42_alu8.md R173). -/
def incHalf (v : Byte) : Bool := decide ((v &&& 0x0F#8).toNat + 1 > 0x0F)

/-- Half borrow of an 8-bit decrement (42_alu8.md R174). -/
def decHalf (v : Byte) : Bool := decide (v &&& 0x0F#8 = 0#8)

/-- A 16-bit result with the half carry and the carry. -/
structure Sum16 where
  res : Word
  h : Bool
  c : Bool
  deriving DecidableEq, Repr

/-- `spdisp` (43_alu16.md R210): a signed displacement, with the flags of the unsigned low-byte addition. -/
def spdisp (sp : Word) (e : Byte) : Sum16 :=
  { res := sp + sext16 e
    h := decide ((sp &&& 0x0F#16).toNat + (e &&& 0x0F#8).toNat > 0x0F)
    c := decide ((sp &&& 0xFF#16).toNat + e.toNat > 0xFF) }

/-- The sum of `ADD HL,rr` (43_alu16.md R215): half carry out of bit 11, carry out of bit 15. -/
def add16 (a b : Word) : Sum16 :=
  { res := BitVec.ofNat 16 (a.toNat + b.toNat)
    h := decide ((a &&& 0x0FFF#16).toNat + (b &&& 0x0FFF#16).toNat > 0x0FFF)
    c := decide (a.toNat + b.toNat > 0xFFFF) }

/-- The low-digit step of `DAA` after an addition (42_alu8.md R201). -/
def daaAddLow (a : Byte) (h : Bool) : Nat :=
  if h = true ∨ (a &&& 0x0F#8).toNat > 0x09 then a.toNat + 0x06 else a.toNat

/-- The high-digit step of `DAA` after an addition, tested on the running value (42_alu8.md R201; log 12). -/
def daaAddHigh (x : Nat) (c : Bool) : Nat := if c = true ∨ x > 0x9F then x + 0x60 else x

/-- The low-digit step of `DAA` after a subtraction (42_alu8.md R201). -/
def daaSubLow (a : Byte) (h : Bool) : Byte := if h then a - 0x06#8 else a

/-- The high-digit step of `DAA` after a subtraction (42_alu8.md R201; log 12). -/
def daaSubHigh (a : Byte) (c : Bool) : Byte := if c then a - 0x60#8 else a

/-- `DAA` on the accumulator with the prior N, H and C: the new accumulator and the new carry (42_alu8.md R201). -/
def daa8 (a : Byte) (n h c : Bool) : Byte × Bool :=
  if n then (daaSubHigh (daaSubLow a h) c, c)
  else (BitVec.ofNat 8 (daaAddHigh (daaAddLow a h) c), c || decide (daaAddHigh (daaAddLow a h) c > 0xFF))

/-- A one-bit value as a byte. -/
def bitByte (b : Bool) : Byte := if b then 1#8 else 0#8

/-- The eight rotate and shift functions (46_extended_cb.md R282 to R289): the result and the outgoing bit, given the
incoming carry flag, which only `rl` and `rr` use. -/
def rotate8 (op : RotOp) (v : Byte) (cin : Bool) : Byte × Bool :=
  match op with
  | .rlc => ((v <<< 1) ||| bitByte (v.getLsbD 7), v.getLsbD 7)
  | .rrc => ((v >>> 1) ||| (bitByte (v.getLsbD 0) <<< 7), v.getLsbD 0)
  | .rl => ((v <<< 1) ||| bitByte cin, v.getLsbD 7)
  | .rr => ((v >>> 1) ||| (bitByte cin <<< 7), v.getLsbD 0)
  | .sla => (v <<< 1, v.getLsbD 7)
  | .sra => ((v >>> 1) ||| (v &&& 0x80#8), v.getLsbD 0)
  | .swap => ((v <<< 4) ||| (v >>> 4), false)
  | .srl => (v >>> 1, v.getLsbD 0)

/-- `v & ~(1 << n)` (46_extended_cb.md R309). -/
def resBit (n : Fin 8) (v : Byte) : Byte := v &&& ~~~(1#8 <<< n.val)

/-- `v | (1 << n)` (46_extended_cb.md R311). -/
def setBit (n : Fin 8) (v : Byte) : Byte := v ||| (1#8 <<< n.val)

/-- Writing one flag of the state's `F`. -/
def State.setFlag (s : State) (fl : Flag) (v : Bool) : State := { s with f := putFlag fl v s.f }

/-- Reading one flag of the state's `F`. -/
def State.flag (s : State) (fl : Flag) : Bool := getFlag fl s.f

/-- Writing the flags Z, N and H, leaving C (8-bit `INC` and `DEC`, `BIT`). -/
def State.setZNH (s : State) (z n h : Bool) : State := ((s.setFlag .Z z).setFlag .N n).setFlag .H h

/-- Writing the flags N, H and C, leaving Z (`ADD HL,rr`, `SCF`, `CCF`). -/
def State.setNHC (s : State) (n h c : Bool) : State := ((s.setFlag .N n).setFlag .H h).setFlag .C c

/-- Writing all four flags. -/
def State.setFlags (s : State) (z n h c : Bool) : State := (s.setZNH z n h).setFlag .C c

/-- `cond(cc)` (40_step_dispatch.md R120; 30_encoding.md R86). -/
def State.cond (s : State) (cc : Cond) : Bool :=
  match cc with
  | .NZ => !s.flag .Z
  | .Z => s.flag .Z
  | .NC => !s.flag .C
  | .C => s.flag .C

end Sys2Proof.Machine
end

