-- ==== Sys2Proof/Machine/Memory.lean ====
section
/-! DEFINITION. Memory as canonical plain data: reading and writing one byte, and the canonical form (20_memory.md R50,
R67; logs 2 and 3). -/
namespace Sys2Proof.Machine

/-- The byte memory holds at an address; an unlisted address reads as `Config.unwrittenByte` (log 2). -/
def Memory.read : Memory → Nat → Byte
  | [], _ => Config.unwrittenByte
  | (k, w) :: rest, a => if k = a then w else Memory.read rest a

/-- Memory with the cell of address `a`, if it is to be listed, put before `rest`. -/
def Memory.cons (a : Nat) (v : Byte) (rest : Memory) : Memory :=
  if v = Config.unwrittenByte then rest else (a, v) :: rest

/-- Memory with `v` at address `a`, in canonical form again. -/
def Memory.write : Memory → Nat → Byte → Memory
  | [], a, v => Memory.cons a v []
  | (k, w) :: rest, a, v =>
    if a < k then Memory.cons a v ((k, w) :: rest)
    else if a = k then Memory.cons a v rest
    else (k, w) :: Memory.write rest a v

/-- Canonical from address `lo` on: addresses at least `lo`, strictly rising, below 65536, no cell equal to what an unlisted
address reads as. -/
def Memory.wfFrom (lo : Nat) : Memory → Bool
  | [] => true
  | (k, w) :: rest =>
    decide (lo ≤ k) && decide (k < 65536) && decide (w ≠ Config.unwrittenByte) && Memory.wfFrom (k + 1) rest

/-- The canonical form of memory. -/
def Memory.wf (m : Memory) : Bool := Memory.wfFrom 0 m

/-- Whether an address lies in a range. -/
def AddrRange.contains (r : AddrRange) (a : Nat) : Bool := decide (r.lo ≤ a) && decide (a ≤ r.hi)

end Sys2Proof.Machine
end

