-- ==== Sys2Proof/Machine/Bus.lean ====
section
/-! DEFINITION. The bus port (20_memory.md R51 to R58): what the bus answers to a read, whether a write takes effect, and
what the bus has seen after an access (log 3). -/
namespace Sys2Proof.Machine

/-- The address of an access. -/
def Access.addr : Access → Word
  | .read a _ => a
  | .write a _ => a

/-- Whether an access is a write. -/
def Access.isWrite : Access → Bool
  | .read _ _ => false
  | .write _ _ => true

/-- Whether a list of ranges holds an address. -/
def inRanges (rs : List AddrRange) (a : Word) : Bool := rs.any (fun r => r.contains a.toNat)

/-- Whether an address is plain memory on this bus (20_memory.md R67). -/
def Bus.isRam (b : Bus) (a : Word) : Bool := inRanges b.ram a

/-- Whether a write at an address changes memory (20_memory.md R56). -/
def Bus.accepts (b : Bus) (a : Word) : Bool := b.isRam a && !inRanges b.nonWritable a

/-- What the bus answers to a read (20_memory.md R57): the byte memory holds where it is plain memory; elsewhere the next of
the answers it was given, and after the last of them whatever the oracle answers to what it has seen. -/
def Bus.answer (b : Bus) (mem : Memory) (a : Word) : Byte :=
  if b.isRam a then Memory.read mem a.toNat
  else
    match b.answers with
    | v :: _ => v
    | [] => Config.busAnswer b.history a

/-- The bus after an access: outside its plain memory a read uses up an answer, and either access has been seen. -/
def Bus.after (b : Bus) (x : Access) : Bus :=
  if b.isRam x.addr then b
  else { b with answers := if x.isWrite then b.answers else b.answers.tail, history := x :: b.history }

/-- The bus after several accesses, the oldest first. -/
def Bus.afterAll (b : Bus) (xs : List Access) : Bus := xs.foldl Bus.after b

/-- The part of a bus that no access changes: which addresses are plain memory and which of them ignore writes. -/
def Bus.map (b : Bus) : List AddrRange × List AddrRange := (b.ram, b.nonWritable)

end Sys2Proof.Machine
end

