-- ==== Sys2Proof/Machine/Ops.lean ====
section
/-! DEFINITION. The named operations every handler uses: field setters, the clock rule (40_step_dispatch.md R114), the bus
(20_memory.md R51 to R58), the fetch helpers (40_step_dispatch.md R111) and the stack helpers (R121). The block takes no
exception (60_exceptions.md R320, R324), so there is no operation that enters one; `RETI` (R325) is built from `pop16`. -/
namespace Sys2Proof.Machine

def State.setA (s : State) (v : Byte) : State := { s with a := v }
def State.setB (s : State) (v : Byte) : State := { s with b := v }
def State.setC (s : State) (v : Byte) : State := { s with c := v }
def State.setD (s : State) (v : Byte) : State := { s with d := v }
def State.setE (s : State) (v : Byte) : State := { s with e := v }
def State.setF (s : State) (v : Byte) : State := { s with f := v }
def State.setH (s : State) (v : Byte) : State := { s with h := v }
def State.setL (s : State) (v : Byte) : State := { s with l := v }
def State.setPC (s : State) (w : Word) : State := { s with pc := w }
def State.setSP (s : State) (w : Word) : State := { s with sp := w }
def State.setIME (s : State) (b : Bool) : State := { s with ime := b }

/-- `clk(T)`: the counters are overwritten, and M is T / 4 (40_step_dispatch.md R114). -/
def State.clk (s : State) (t : Nat) : State := { s with lastClockT := t, lastClockM := t / 4 }

/-- The byte memory holds at an address (20_memory.md R67). -/
def State.peek (s : State) (a : Word) : Byte := Memory.read s.mem a.toNat

/-- Whether a write at an address changes memory (20_memory.md R56; log 3). -/
def State.accepts (s : State) (a : Word) : Bool := s.bus.accepts a

/-- The byte the bus would answer to a read of an address now (20_memory.md R57; log 3). -/
def State.answer (s : State) (a : Word) : Byte := s.bus.answer s.mem a

/-- An access has been issued: it is recorded (20_memory.md R58; log 4), and the bus has seen it. -/
def State.issued (s : State) (x : Access) : State :=
  { s with bus := s.bus.after x, accesses := s.accesses ++ [x] }

/-- `ReadByte` (20_memory.md R51, R57): the byte the bus answers, and the state in which the read has been issued. -/
def State.readByte (s : State) (a : Word) : Byte × State := (s.answer a, s.issued (.read a (s.answer a)))

/-- `WriteByte` (20_memory.md R51): issued in any case, taking effect only where the bus accepts writes (R56). -/
def State.writeByte (s : State) (a : Word) (v : Byte) : State :=
  { s with
    mem := if s.accepts a then Memory.write s.mem a.toNat v else s.mem
    bus := s.bus.after (.write a v)
    accesses := s.accesses ++ [.write a v] }

/-- `ReadWord` (20_memory.md R53): the low byte at `a` first, then the high byte at `a + 1`, wrapping (log 13). -/
def State.readWord (s : State) (a : Word) : Word × State :=
  let lo := s.readByte a
  let hi := lo.2.readByte (a + 1#16)
  (mkWord hi.1 lo.1, hi.2)

/-- `WriteWord` (20_memory.md R53): the low byte at `a` first, then the high byte at `a + 1`, wrapping (log 13). -/
def State.writeWord (s : State) (a : Word) (w : Word) : State :=
  (s.writeByte a (lo8 w)).writeByte (a + 1#16) (hi8 w)

/-- `Fetch8` (40_step_dispatch.md R111). -/
def State.fetch8 (s : State) : Byte × State :=
  let r := s.readByte s.pc
  (r.1, r.2.setPC (s.pc + 1#16))

/-- `Fetch16` (40_step_dispatch.md R111): little-endian. -/
def State.fetch16 (s : State) : Word × State :=
  let r := s.readWord s.pc
  (r.1, r.2.setPC (s.pc + 2#16))

/-- A handler's `Fetch8` of the operand byte its instruction was decoded with (40_step_dispatch.md R111; log 24): the read
is issued at `PC` and `PC` moves past it. -/
def State.operand8 (s : State) (v : Byte) : State := (s.issued (.read s.pc v)).setPC (s.pc + 1#16)

/-- A handler's `Fetch16` of the operand word its instruction was decoded with (40_step_dispatch.md R111; log 24). -/
def State.operand16 (s : State) (w : Word) : State :=
  ((s.issued (.read s.pc (lo8 w))).issued (.read (s.pc + 1#16) (hi8 w))).setPC (s.pc + 2#16)

/-- Skipping operand bytes without reading them (44_stack_control.md R234, R236, R238; 20_memory.md R58). -/
def State.skip (s : State) (n : Word) : State := s.setPC (s.pc + n)

/-- `Push16` (40_step_dispatch.md R121): `SP` is decremented before the write. -/
def State.push16 (s : State) (w : Word) : State :=
  (s.setSP (s.sp - 2#16)).writeWord (s.sp - 2#16) w

/-- `Pop16` (40_step_dispatch.md R121): `SP` is incremented after the read. -/
def State.pop16 (s : State) : Word × State :=
  let r := s.readWord s.sp
  (r.1, r.2.setSP (s.sp + 2#16))

/-- Reset of a running machine (10_state.md R34; 70_reset_and_hazards.md R350, R351): every register field from
RESET_STATE; memory and the bus stay. -/
def State.resetFrom (r : Config.ResetRecord) (s : State) : State := State.ofReset r s.mem s.bus

end Sys2Proof.Machine
end

