-- ==== Sys2Proof/Machine/Operands.lean ====
section
/-! DEFINITION. Every operand form of the spec: the `r` field with `[HL]` (30_encoding.md R83), the pair field (R84), the
stack-pair field (R85), the pair views (10_state.md R22) and the addressing modes of the accumulator loads (41_loads.md). -/
namespace Sys2Proof.Machine

/-- Reading an 8-bit register by name (30_encoding.md R83). -/
def State.r8 (s : State) (r : Reg8) : Byte :=
  match r with
  | .B => s.b
  | .C => s.c
  | .D => s.d
  | .E => s.e
  | .H => s.h
  | .L => s.l
  | .A => s.a

/-- Writing an 8-bit register by name. -/
def State.setR8 (s : State) (r : Reg8) (v : Byte) : State :=
  match r with
  | .B => s.setB v
  | .C => s.setC v
  | .D => s.setD v
  | .E => s.setE v
  | .H => s.setH v
  | .L => s.setL v
  | .A => s.setA v

/-- The pair views (10_state.md R22): the first-named register is the high byte. -/
def State.bc (s : State) : Word := mkWord s.b s.c
def State.de (s : State) : Word := mkWord s.d s.e
def State.hl (s : State) : Word := mkWord s.h s.l
def State.af (s : State) : Word := mkWord s.a s.f

/-- "Writing a pair view writes both underlying bytes" (10_state.md R22). -/
def State.setBC (s : State) (w : Word) : State := (s.setB (hi8 w)).setC (lo8 w)
def State.setDE (s : State) (w : Word) : State := (s.setD (hi8 w)).setE (lo8 w)
def State.setHL (s : State) (w : Word) : State := (s.setH (hi8 w)).setL (lo8 w)

/-- Writing `AF` masks the low nibble of `F` (10_state.md R22; log 16). -/
def State.setAF (s : State) (w : Word) : State := (s.setA (hi8 w)).setF (lo8 w &&& 0xF0#8)

/-- `R16[p]` (30_encoding.md R84). -/
def State.r16 (s : State) (rr : Pair) : Word :=
  match rr with
  | .BC => s.bc
  | .DE => s.de
  | .HL => s.hl
  | .SP => s.sp

/-- `R16[p] <- w` (30_encoding.md R84). -/
def State.setR16 (s : State) (rr : Pair) (w : Word) : State :=
  match rr with
  | .BC => s.setBC w
  | .DE => s.setDE w
  | .HL => s.setHL w
  | .SP => s.setSP w

/-- `R16S[p]` (30_encoding.md R85). -/
def State.r16s (s : State) (rr : StackPair) : Word :=
  match rr with
  | .BC => s.bc
  | .DE => s.de
  | .HL => s.hl
  | .AF => s.af

/-- `R16S[p] <- w` (30_encoding.md R85). -/
def State.setR16s (s : State) (rr : StackPair) (w : Word) : State :=
  match rr with
  | .BC => s.setBC w
  | .DE => s.setDE w
  | .HL => s.setHL w
  | .AF => s.setAF w

/-- `R8[z]` read (30_encoding.md R83): a register, or one read of the byte at `HL`. -/
def State.readOpnd (s : State) (o : Opnd8) : Byte × State :=
  match o with
  | .reg r => (s.r8 r, s)
  | .atHL => s.readByte s.hl

/-- `R8[z] <- v` (30_encoding.md R83): a register, or one write of the byte at `HL`. -/
def State.writeOpnd (s : State) (o : Opnd8) (v : Byte) : State :=
  match o with
  | .reg r => s.setR8 r v
  | .atHL => s.writeByte s.hl v

/-- An address in the high page, `0xFF00 + o` with `o` unsigned (20_memory.md R60; 41_loads.md R147 to R150). -/
def highPage (o : Byte) : Word := 0xFF00#16 + o.setWidth 16

/-- The effective address of an accumulator load or store, after its operand has been fetched (41_loads.md, the
effective-address summary). -/
def State.accAddr (s : State) (m : AccMode) : Word :=
  match m with
  | .atBC => s.bc
  | .atDE => s.de
  | .atHLinc => s.hl
  | .atHLdec => s.hl
  | .atA16 a16 => a16
  | .highA8 a8 => highPage a8
  | .highC => highPage s.c

/-- The operand fetch of an accumulator load or store: `Fetch16` for `[a16]`, `Fetch8` for `[$FF00+a8]`, none else. -/
def State.accFetch (s : State) (m : AccMode) : State :=
  match m with
  | .atBC => s
  | .atDE => s
  | .atHLinc => s
  | .atHLdec => s
  | .atA16 a16 => s.operand16 a16
  | .highA8 a8 => s.operand8 a8
  | .highC => s

/-- What happens to the base register after the transfer (41_loads.md R140 to R143): `HL` moves by one for `[HL+]`, `[HL-]`. -/
def State.accPost (s : State) (m : AccMode) : State :=
  match m with
  | .atBC => s
  | .atDE => s
  | .atHLinc => s.setHL (s.hl + 1#16)
  | .atHLdec => s.setHL (s.hl - 1#16)
  | .atA16 _ => s
  | .highA8 _ => s
  | .highC => s

/-- The cost of an accumulator load or store (41_loads.md R136 to R150). -/
def accCost : AccMode → Nat
  | .atBC => 8
  | .atDE => 8
  | .atHLinc => 8
  | .atHLdec => 8
  | .atA16 _ => 16
  | .highA8 _ => 12
  | .highC => 8

end Sys2Proof.Machine
end

