-- ==== Sys2Proof/Machine/Alu16.lean ====
section
/-! DEFINITION. The stack-pointer displacements and the 16-bit arithmetic of 43_alu16.md (R210 to R215): the shared operation
of each form, then one meaning per instruction. -/
namespace Sys2Proof.Machine

/-- `LD HL,SP+r8` (43_alu16.md R211): Z and N forced to 0. -/
def loadHLSPDisp (r8 : Byte) (s : State) : Result :=
  let r := spdisp s.sp r8
  .next ((((s.operand8 r8).setHL r.res).setFlags false false r.h r.c).clk 12)

/-- `ADD SP,r8` (43_alu16.md R212): Z and N forced to 0. -/
def addSPDisp (r8 : Byte) (s : State) : Result :=
  let r := spdisp s.sp r8
  .next ((((s.operand8 r8).setSP r.res).setFlags false false r.h r.c).clk 16)

/-- `INC rr` (43_alu16.md R213): no flag changes. -/
def incPair (rr : Pair) (s : State) : Result := .next ((s.setR16 rr (s.r16 rr + 1#16)).clk 8)

/-- `DEC rr` (43_alu16.md R214): no flag changes. -/
def decPair (rr : Pair) (s : State) : Result := .next ((s.setR16 rr (s.r16 rr - 1#16)).clk 8)

/-- `ADD HL,rr` (43_alu16.md R215): both operands are read before `HL` is written; Z is unchanged. -/
def addHLPair (rr : Pair) (s : State) : Result :=
  let r := add16 s.hl (s.r16 rr)
  .next (((s.setHL r.res).setNHC false r.h r.c).clk 8)

/-- `INC BC` (03), 43_alu16.md R213; cost 8/2. -/
def execInc_BC (s : State) : Result := incPair .BC s

/-- `ADD HL,BC` (09), 43_alu16.md R215; cost 8/2. -/
def execAdd_HL_BC (s : State) : Result := addHLPair .BC s

/-- `DEC BC` (0B), 43_alu16.md R214; cost 8/2. -/
def execDec_BC (s : State) : Result := decPair .BC s

/-- `INC DE` (13), 43_alu16.md R213; cost 8/2. -/
def execInc_DE (s : State) : Result := incPair .DE s

/-- `ADD HL,DE` (19), 43_alu16.md R215; cost 8/2. -/
def execAdd_HL_DE (s : State) : Result := addHLPair .DE s

/-- `DEC DE` (1B), 43_alu16.md R214; cost 8/2. -/
def execDec_DE (s : State) : Result := decPair .DE s

/-- `INC HL` (23), 43_alu16.md R213; cost 8/2. -/
def execInc_HL (s : State) : Result := incPair .HL s

/-- `ADD HL,HL` (29), 43_alu16.md R215; cost 8/2. -/
def execAdd_HL_HL (s : State) : Result := addHLPair .HL s

/-- `DEC HL` (2B), 43_alu16.md R214; cost 8/2. -/
def execDec_HL (s : State) : Result := decPair .HL s

/-- `INC SP` (33), 43_alu16.md R213; cost 8/2. -/
def execInc_SP (s : State) : Result := incPair .SP s

/-- `ADD HL,SP` (39), 43_alu16.md R215; cost 8/2. -/
def execAdd_HL_SP (s : State) : Result := addHLPair .SP s

/-- `DEC SP` (3B), 43_alu16.md R214; cost 8/2. -/
def execDec_SP (s : State) : Result := decPair .SP s

/-- `ADD SP,r8` (E8), 43_alu16.md R212; cost 16/4. -/
def execAdd_SP_r8 (r8 : Byte) (s : State) : Result := addSPDisp r8 s

/-- `LD HL,SP+r8` (F8), 43_alu16.md R211; cost 12/3. -/
def execLd_HL_SPr8 (r8 : Byte) (s : State) : Result := loadHLSPDisp r8 s

end Sys2Proof.Machine
end

