-- ==== Sys2Proof/Machine/Alu8.lean ====
section
/-! DEFINITION. The 8-bit arithmetic, logic, decimal-adjust, flag and accumulator-rotate instructions of 42_alu8.md (R173 to
R208): the shared operation of each form, then one meaning per instruction. -/
namespace Sys2Proof.Machine

/-- `INC r` (42_alu8.md R173): C is unaffected. -/
def incReg (r : Reg8) (s : State) : Result :=
  let v := s.r8 r
  .next (((s.setR8 r (v + 1#8)).setZNH (decide (v + 1#8 = 0#8)) false (incHalf v)).clk 4)

/-- `DEC r` (42_alu8.md R174): C is unaffected. -/
def decReg (r : Reg8) (s : State) : Result :=
  let v := s.r8 r
  .next (((s.setR8 r (v - 1#8)).setZNH (decide (v - 1#8 = 0#8)) true (decHalf v)).clk 4)

/-- `INC [HL]` (42_alu8.md R175): one read, then one write; the flags come from the byte read. -/
def incAtHL (s : State) : Result :=
  let r := s.readByte s.hl
  .next (((r.2.writeByte s.hl (r.1 + 1#8)).setZNH (decide (r.1 + 1#8 = 0#8)) false (incHalf r.1)).clk 12)

/-- `DEC [HL]` (42_alu8.md R176): one read, then one write; the flags come from the byte read. -/
def decAtHL (s : State) : Result :=
  let r := s.readByte s.hl
  .next (((r.2.writeByte s.hl (r.1 - 1#8)).setZNH (decide (r.1 - 1#8 = 0#8)) true (decHalf r.1)).clk 12)

/-- An accumulator operation with operand `v`: the flags, and `A` except for `CP`, which "discards result, only sets flags"
(42_alu8.md R177 to R200). -/
def State.aluAcc (s : State) (op : AluOp) (v : Byte) : State :=
  let r := alu8 op s.a v (s.flag .C)
  let s1 := s.setFlags r.z r.n r.h r.c
  match op with
  | .cp => s1
  | .add | .adc | .sub | .sbc | .and | .xor | .or => s1.setA r.res

/-- An accumulator operation on a register (42_alu8.md R177, R180, R183, R186, R189, R192, R195, R198). -/
def aluReg (op : AluOp) (r : Reg8) (s : State) : Result := .next ((s.aluAcc op (s.r8 r)).clk 4)

/-- An accumulator operation on `[HL]` (42_alu8.md R178, R181, R184, R187, R190, R193, R196, R199). -/
def aluAtHL (op : AluOp) (s : State) : Result :=
  let r := s.readByte s.hl
  .next ((r.2.aluAcc op r.1).clk 8)

/-- An accumulator operation on an immediate (42_alu8.md R179, R182, R185, R188, R191, R194, R197, R200). -/
def aluImm (op : AluOp) (d8 : Byte) (s : State) : Result := .next (((s.operand8 d8).aluAcc op d8).clk 8)

/-- `DAA` (42_alu8.md R201): N is unchanged, H cleared, Z of the new `A` (log 12). -/
def adjustDecimal (s : State) : Result :=
  let r := daa8 s.a (s.flag .N) (s.flag .H) (s.flag .C)
  .next (((((s.setA r.1).setFlag .C r.2).setFlag .H false).setFlag .Z (decide (r.1 = 0#8))).clk 4)

/-- `CPL` (42_alu8.md R202): Z and C are unchanged. -/
def complementAcc (s : State) : Result := .next ((((s.setA (~~~s.a)).setFlag .N true).setFlag .H true).clk 4)

/-- `SCF` (42_alu8.md R203): Z is unchanged. -/
def setCarry (s : State) : Result := .next ((s.setNHC false false true).clk 4)

/-- `CCF` (42_alu8.md R204): Z is unchanged. -/
def complementCarry (s : State) : Result := .next ((s.setNHC false false (!s.flag .C)).clk 4)

/-- The accumulator rotates (42_alu8.md R205 to R208): Z, N and H forced to 0, C the outgoing bit (log 17). -/
def rotAcc (op : RotOp) (s : State) : Result :=
  let r := rotate8 op s.a (s.flag .C)
  .next (((s.setA r.1).setFlags false false false r.2).clk 4)

/-- `INC B` (04), 42_alu8.md R173; cost 4/1. -/
def execInc_B (s : State) : Result := incReg .B s

/-- `DEC B` (05), 42_alu8.md R174; cost 4/1. -/
def execDec_B (s : State) : Result := decReg .B s

/-- `RLCA` (07), 42_alu8.md R205; cost 4/1. -/
def execRlca (s : State) : Result := rotAcc .rlc s

/-- `INC C` (0C), 42_alu8.md R173; cost 4/1. -/
def execInc_C (s : State) : Result := incReg .C s

/-- `DEC C` (0D), 42_alu8.md R174; cost 4/1. -/
def execDec_C (s : State) : Result := decReg .C s

/-- `RRCA` (0F), 42_alu8.md R207; cost 4/1. -/
def execRrca (s : State) : Result := rotAcc .rrc s

/-- `INC D` (14), 42_alu8.md R173; cost 4/1. -/
def execInc_D (s : State) : Result := incReg .D s

/-- `DEC D` (15), 42_alu8.md R174; cost 4/1. -/
def execDec_D (s : State) : Result := decReg .D s

/-- `RLA` (17), 42_alu8.md R206; cost 4/1. -/
def execRla (s : State) : Result := rotAcc .rl s

/-- `INC E` (1C), 42_alu8.md R173; cost 4/1. -/
def execInc_E (s : State) : Result := incReg .E s

/-- `DEC E` (1D), 42_alu8.md R174; cost 4/1. -/
def execDec_E (s : State) : Result := decReg .E s

/-- `RRA` (1F), 42_alu8.md R208; cost 4/1. -/
def execRra (s : State) : Result := rotAcc .rr s

/-- `INC H` (24), 42_alu8.md R173; cost 4/1. -/
def execInc_H (s : State) : Result := incReg .H s

/-- `DEC H` (25), 42_alu8.md R174; cost 4/1. -/
def execDec_H (s : State) : Result := decReg .H s

/-- `DAA` (27), 42_alu8.md R201; cost 4/1. -/
def execDaa (s : State) : Result := adjustDecimal s

/-- `INC L` (2C), 42_alu8.md R173; cost 4/1. -/
def execInc_L (s : State) : Result := incReg .L s

/-- `DEC L` (2D), 42_alu8.md R174; cost 4/1. -/
def execDec_L (s : State) : Result := decReg .L s

/-- `CPL` (2F), 42_alu8.md R202; cost 4/1. -/
def execCpl (s : State) : Result := complementAcc s

/-- `INC [HL]` (34), 42_alu8.md R175; cost 12/3. -/
def execInc_atHL (s : State) : Result := incAtHL s

/-- `DEC [HL]` (35), 42_alu8.md R176; cost 12/3. -/
def execDec_atHL (s : State) : Result := decAtHL s

/-- `SCF` (37), 42_alu8.md R203; cost 4/1. -/
def execScf (s : State) : Result := setCarry s

/-- `INC A` (3C), 42_alu8.md R173; cost 4/1. -/
def execInc_A (s : State) : Result := incReg .A s

/-- `DEC A` (3D), 42_alu8.md R174; cost 4/1. -/
def execDec_A (s : State) : Result := decReg .A s

/-- `CCF` (3F), 42_alu8.md R204; cost 4/1. -/
def execCcf (s : State) : Result := complementCarry s

/-- `ADD A,B` (80), 42_alu8.md R177; cost 4/1. -/
def execAdd_A_B (s : State) : Result := aluReg .add .B s

/-- `ADD A,C` (81), 42_alu8.md R177; cost 4/1. -/
def execAdd_A_C (s : State) : Result := aluReg .add .C s

/-- `ADD A,D` (82), 42_alu8.md R177; cost 4/1. -/
def execAdd_A_D (s : State) : Result := aluReg .add .D s

/-- `ADD A,E` (83), 42_alu8.md R177; cost 4/1. -/
def execAdd_A_E (s : State) : Result := aluReg .add .E s

/-- `ADD A,H` (84), 42_alu8.md R177; cost 4/1. -/
def execAdd_A_H (s : State) : Result := aluReg .add .H s

/-- `ADD A,L` (85), 42_alu8.md R177; cost 4/1. -/
def execAdd_A_L (s : State) : Result := aluReg .add .L s

/-- `ADD A,[HL]` (86), 42_alu8.md R178; cost 8/2. -/
def execAdd_A_atHL (s : State) : Result := aluAtHL .add s

/-- `ADD A,A` (87), 42_alu8.md R177; cost 4/1. -/
def execAdd_A_A (s : State) : Result := aluReg .add .A s

/-- `ADC A,B` (88), 42_alu8.md R180; cost 4/1. -/
def execAdc_A_B (s : State) : Result := aluReg .adc .B s

/-- `ADC A,C` (89), 42_alu8.md R180; cost 4/1. -/
def execAdc_A_C (s : State) : Result := aluReg .adc .C s

/-- `ADC A,D` (8A), 42_alu8.md R180; cost 4/1. -/
def execAdc_A_D (s : State) : Result := aluReg .adc .D s

/-- `ADC A,E` (8B), 42_alu8.md R180; cost 4/1. -/
def execAdc_A_E (s : State) : Result := aluReg .adc .E s

/-- `ADC A,H` (8C), 42_alu8.md R180; cost 4/1. -/
def execAdc_A_H (s : State) : Result := aluReg .adc .H s

/-- `ADC A,L` (8D), 42_alu8.md R180; cost 4/1. -/
def execAdc_A_L (s : State) : Result := aluReg .adc .L s

/-- `ADC A,[HL]` (8E), 42_alu8.md R181; cost 8/2. -/
def execAdc_A_atHL (s : State) : Result := aluAtHL .adc s

/-- `ADC A,A` (8F), 42_alu8.md R180; cost 4/1. -/
def execAdc_A_A (s : State) : Result := aluReg .adc .A s

/-- `SUB A,B` (90), 42_alu8.md R183; cost 4/1. -/
def execSub_A_B (s : State) : Result := aluReg .sub .B s

/-- `SUB A,C` (91), 42_alu8.md R183; cost 4/1. -/
def execSub_A_C (s : State) : Result := aluReg .sub .C s

/-- `SUB A,D` (92), 42_alu8.md R183; cost 4/1. -/
def execSub_A_D (s : State) : Result := aluReg .sub .D s

/-- `SUB A,E` (93), 42_alu8.md R183; cost 4/1. -/
def execSub_A_E (s : State) : Result := aluReg .sub .E s

/-- `SUB A,H` (94), 42_alu8.md R183; cost 4/1. -/
def execSub_A_H (s : State) : Result := aluReg .sub .H s

/-- `SUB A,L` (95), 42_alu8.md R183; cost 4/1. -/
def execSub_A_L (s : State) : Result := aluReg .sub .L s

/-- `SUB A,[HL]` (96), 42_alu8.md R184; cost 8/2. -/
def execSub_A_atHL (s : State) : Result := aluAtHL .sub s

/-- `SUB A,A` (97), 42_alu8.md R183; cost 4/1. -/
def execSub_A_A (s : State) : Result := aluReg .sub .A s

/-- `SBC A,B` (98), 42_alu8.md R189; cost 4/1. -/
def execSbc_A_B (s : State) : Result := aluReg .sbc .B s

/-- `SBC A,C` (99), 42_alu8.md R189; cost 4/1. -/
def execSbc_A_C (s : State) : Result := aluReg .sbc .C s

/-- `SBC A,D` (9A), 42_alu8.md R189; cost 4/1. -/
def execSbc_A_D (s : State) : Result := aluReg .sbc .D s

/-- `SBC A,E` (9B), 42_alu8.md R189; cost 4/1. -/
def execSbc_A_E (s : State) : Result := aluReg .sbc .E s

/-- `SBC A,H` (9C), 42_alu8.md R189; cost 4/1. -/
def execSbc_A_H (s : State) : Result := aluReg .sbc .H s

/-- `SBC A,L` (9D), 42_alu8.md R189; cost 4/1. -/
def execSbc_A_L (s : State) : Result := aluReg .sbc .L s

/-- `SBC A,[HL]` (9E), 42_alu8.md R190; cost 8/2. -/
def execSbc_A_atHL (s : State) : Result := aluAtHL .sbc s

/-- `SBC A,A` (9F), 42_alu8.md R189; cost 4/1. -/
def execSbc_A_A (s : State) : Result := aluReg .sbc .A s

/-- `AND A,B` (A0), 42_alu8.md R192; cost 4/1. -/
def execAnd_A_B (s : State) : Result := aluReg .and .B s

/-- `AND A,C` (A1), 42_alu8.md R192; cost 4/1. -/
def execAnd_A_C (s : State) : Result := aluReg .and .C s

/-- `AND A,D` (A2), 42_alu8.md R192; cost 4/1. -/
def execAnd_A_D (s : State) : Result := aluReg .and .D s

/-- `AND A,E` (A3), 42_alu8.md R192; cost 4/1. -/
def execAnd_A_E (s : State) : Result := aluReg .and .E s

/-- `AND A,H` (A4), 42_alu8.md R192; cost 4/1. -/
def execAnd_A_H (s : State) : Result := aluReg .and .H s

/-- `AND A,L` (A5), 42_alu8.md R192; cost 4/1. -/
def execAnd_A_L (s : State) : Result := aluReg .and .L s

/-- `AND A,[HL]` (A6), 42_alu8.md R193; cost 8/2. -/
def execAnd_A_atHL (s : State) : Result := aluAtHL .and s

/-- `AND A,A` (A7), 42_alu8.md R192; cost 4/1. -/
def execAnd_A_A (s : State) : Result := aluReg .and .A s

/-- `XOR A,B` (A8), 42_alu8.md R198; cost 4/1. -/
def execXor_A_B (s : State) : Result := aluReg .xor .B s

/-- `XOR A,C` (A9), 42_alu8.md R198; cost 4/1. -/
def execXor_A_C (s : State) : Result := aluReg .xor .C s

/-- `XOR A,D` (AA), 42_alu8.md R198; cost 4/1. -/
def execXor_A_D (s : State) : Result := aluReg .xor .D s

/-- `XOR A,E` (AB), 42_alu8.md R198; cost 4/1. -/
def execXor_A_E (s : State) : Result := aluReg .xor .E s

/-- `XOR A,H` (AC), 42_alu8.md R198; cost 4/1. -/
def execXor_A_H (s : State) : Result := aluReg .xor .H s

/-- `XOR A,L` (AD), 42_alu8.md R198; cost 4/1. -/
def execXor_A_L (s : State) : Result := aluReg .xor .L s

/-- `XOR A,[HL]` (AE), 42_alu8.md R199; cost 8/2. -/
def execXor_A_atHL (s : State) : Result := aluAtHL .xor s

/-- `XOR A,A` (AF), 42_alu8.md R198; cost 4/1. -/
def execXor_A_A (s : State) : Result := aluReg .xor .A s

/-- `OR A,B` (B0), 42_alu8.md R195; cost 4/1. -/
def execOr_A_B (s : State) : Result := aluReg .or .B s

/-- `OR A,C` (B1), 42_alu8.md R195; cost 4/1. -/
def execOr_A_C (s : State) : Result := aluReg .or .C s

/-- `OR A,D` (B2), 42_alu8.md R195; cost 4/1. -/
def execOr_A_D (s : State) : Result := aluReg .or .D s

/-- `OR A,E` (B3), 42_alu8.md R195; cost 4/1. -/
def execOr_A_E (s : State) : Result := aluReg .or .E s

/-- `OR A,H` (B4), 42_alu8.md R195; cost 4/1. -/
def execOr_A_H (s : State) : Result := aluReg .or .H s

/-- `OR A,L` (B5), 42_alu8.md R195; cost 4/1. -/
def execOr_A_L (s : State) : Result := aluReg .or .L s

/-- `OR A,[HL]` (B6), 42_alu8.md R196; cost 8/2. -/
def execOr_A_atHL (s : State) : Result := aluAtHL .or s

/-- `OR A,A` (B7), 42_alu8.md R195; cost 4/1. -/
def execOr_A_A (s : State) : Result := aluReg .or .A s

/-- `CP A,B` (B8), 42_alu8.md R186; cost 4/1. -/
def execCp_A_B (s : State) : Result := aluReg .cp .B s

/-- `CP A,C` (B9), 42_alu8.md R186; cost 4/1. -/
def execCp_A_C (s : State) : Result := aluReg .cp .C s

/-- `CP A,D` (BA), 42_alu8.md R186; cost 4/1. -/
def execCp_A_D (s : State) : Result := aluReg .cp .D s

/-- `CP A,E` (BB), 42_alu8.md R186; cost 4/1. -/
def execCp_A_E (s : State) : Result := aluReg .cp .E s

/-- `CP A,H` (BC), 42_alu8.md R186; cost 4/1. -/
def execCp_A_H (s : State) : Result := aluReg .cp .H s

/-- `CP A,L` (BD), 42_alu8.md R186; cost 4/1. -/
def execCp_A_L (s : State) : Result := aluReg .cp .L s

/-- `CP A,[HL]` (BE), 42_alu8.md R187; cost 8/2. -/
def execCp_A_atHL (s : State) : Result := aluAtHL .cp s

/-- `CP A,A` (BF), 42_alu8.md R186; cost 4/1. -/
def execCp_A_A (s : State) : Result := aluReg .cp .A s

/-- `ADD A,d8` (C6), 42_alu8.md R179; cost 8/2. -/
def execAdd_A_d8 (d8 : Byte) (s : State) : Result := aluImm .add d8 s

/-- `ADC A,d8` (CE), 42_alu8.md R182; cost 8/2. -/
def execAdc_A_d8 (d8 : Byte) (s : State) : Result := aluImm .adc d8 s

/-- `SUB A,d8` (D6), 42_alu8.md R185; cost 8/2. -/
def execSub_A_d8 (d8 : Byte) (s : State) : Result := aluImm .sub d8 s

/-- `SBC A,d8` (DE), 42_alu8.md R191; cost 8/2. -/
def execSbc_A_d8 (d8 : Byte) (s : State) : Result := aluImm .sbc d8 s

/-- `AND A,d8` (E6), 42_alu8.md R194; cost 8/2. -/
def execAnd_A_d8 (d8 : Byte) (s : State) : Result := aluImm .and d8 s

/-- `XOR A,d8` (EE), 42_alu8.md R200; cost 8/2. -/
def execXor_A_d8 (d8 : Byte) (s : State) : Result := aluImm .xor d8 s

/-- `OR A,d8` (F6), 42_alu8.md R197; cost 8/2. -/
def execOr_A_d8 (d8 : Byte) (s : State) : Result := aluImm .or d8 s

/-- `CP A,d8` (FE), 42_alu8.md R188; cost 8/2. -/
def execCp_A_d8 (d8 : Byte) (s : State) : Result := aluImm .cp d8 s

end Sys2Proof.Machine
end

