-- ==== Sys2Proof/Machine/Rotates.lean ====
section
/-! DEFINITION. The rotates, shifts and nibble swap of the extended table (46_extended_cb.md R281, R290 to R306): the shared
operation, then one meaning per instruction. -/
namespace Sys2Proof.Machine

/-- The cost of an extended instruction that modifies its operand (46_extended_cb.md R281). -/
def modifyCost : Opnd8 → Nat
  | .reg _ => 8
  | .atHL => 16

/-- A rotate, shift or swap on a register or on `[HL]` (46_extended_cb.md R281, R290; log 15). -/
def rotOpnd (op : RotOp) (o : Opnd8) (s : State) : Result :=
  let r := s.readOpnd o
  let x := rotate8 op r.1 (s.flag .C)
  .next (((r.2.writeOpnd o x.1).setFlags (decide (x.1 = 0#8)) false false x.2).clk (modifyCost o))

/-- `RLC B` (CB 00), 46_extended_cb.md R291; cost 8/2. -/
def execRlc_B (s : State) : Result := rotOpnd .rlc (.reg .B) s

/-- `RLC C` (CB 01), 46_extended_cb.md R291; cost 8/2. -/
def execRlc_C (s : State) : Result := rotOpnd .rlc (.reg .C) s

/-- `RLC D` (CB 02), 46_extended_cb.md R291; cost 8/2. -/
def execRlc_D (s : State) : Result := rotOpnd .rlc (.reg .D) s

/-- `RLC E` (CB 03), 46_extended_cb.md R291; cost 8/2. -/
def execRlc_E (s : State) : Result := rotOpnd .rlc (.reg .E) s

/-- `RLC H` (CB 04), 46_extended_cb.md R291; cost 8/2. -/
def execRlc_H (s : State) : Result := rotOpnd .rlc (.reg .H) s

/-- `RLC L` (CB 05), 46_extended_cb.md R291; cost 8/2. -/
def execRlc_L (s : State) : Result := rotOpnd .rlc (.reg .L) s

/-- `RLC [HL]` (CB 06), 46_extended_cb.md R292; cost 16/4. -/
def execRlc_atHL (s : State) : Result := rotOpnd .rlc .atHL s

/-- `RLC A` (CB 07), 46_extended_cb.md R291; cost 8/2. -/
def execRlc_A (s : State) : Result := rotOpnd .rlc (.reg .A) s

/-- `RRC B` (CB 08), 46_extended_cb.md R293; cost 8/2. -/
def execRrc_B (s : State) : Result := rotOpnd .rrc (.reg .B) s

/-- `RRC C` (CB 09), 46_extended_cb.md R293; cost 8/2. -/
def execRrc_C (s : State) : Result := rotOpnd .rrc (.reg .C) s

/-- `RRC D` (CB 0A), 46_extended_cb.md R293; cost 8/2. -/
def execRrc_D (s : State) : Result := rotOpnd .rrc (.reg .D) s

/-- `RRC E` (CB 0B), 46_extended_cb.md R293; cost 8/2. -/
def execRrc_E (s : State) : Result := rotOpnd .rrc (.reg .E) s

/-- `RRC H` (CB 0C), 46_extended_cb.md R293; cost 8/2. -/
def execRrc_H (s : State) : Result := rotOpnd .rrc (.reg .H) s

/-- `RRC L` (CB 0D), 46_extended_cb.md R293; cost 8/2. -/
def execRrc_L (s : State) : Result := rotOpnd .rrc (.reg .L) s

/-- `RRC [HL]` (CB 0E), 46_extended_cb.md R294; cost 16/4. -/
def execRrc_atHL (s : State) : Result := rotOpnd .rrc .atHL s

/-- `RRC A` (CB 0F), 46_extended_cb.md R293; cost 8/2. -/
def execRrc_A (s : State) : Result := rotOpnd .rrc (.reg .A) s

/-- `RL B` (CB 10), 46_extended_cb.md R295; cost 8/2. -/
def execRl_B (s : State) : Result := rotOpnd .rl (.reg .B) s

/-- `RL C` (CB 11), 46_extended_cb.md R295; cost 8/2. -/
def execRl_C (s : State) : Result := rotOpnd .rl (.reg .C) s

/-- `RL D` (CB 12), 46_extended_cb.md R295; cost 8/2. -/
def execRl_D (s : State) : Result := rotOpnd .rl (.reg .D) s

/-- `RL E` (CB 13), 46_extended_cb.md R295; cost 8/2. -/
def execRl_E (s : State) : Result := rotOpnd .rl (.reg .E) s

/-- `RL H` (CB 14), 46_extended_cb.md R295; cost 8/2. -/
def execRl_H (s : State) : Result := rotOpnd .rl (.reg .H) s

/-- `RL L` (CB 15), 46_extended_cb.md R295; cost 8/2. -/
def execRl_L (s : State) : Result := rotOpnd .rl (.reg .L) s

/-- `RL [HL]` (CB 16), 46_extended_cb.md R296; cost 16/4. -/
def execRl_atHL (s : State) : Result := rotOpnd .rl .atHL s

/-- `RL A` (CB 17), 46_extended_cb.md R295; cost 8/2. -/
def execRl_A (s : State) : Result := rotOpnd .rl (.reg .A) s

/-- `RR B` (CB 18), 46_extended_cb.md R297; cost 8/2. -/
def execRr_B (s : State) : Result := rotOpnd .rr (.reg .B) s

/-- `RR C` (CB 19), 46_extended_cb.md R297; cost 8/2. -/
def execRr_C (s : State) : Result := rotOpnd .rr (.reg .C) s

/-- `RR D` (CB 1A), 46_extended_cb.md R297; cost 8/2. -/
def execRr_D (s : State) : Result := rotOpnd .rr (.reg .D) s

/-- `RR E` (CB 1B), 46_extended_cb.md R297; cost 8/2. -/
def execRr_E (s : State) : Result := rotOpnd .rr (.reg .E) s

/-- `RR H` (CB 1C), 46_extended_cb.md R297; cost 8/2. -/
def execRr_H (s : State) : Result := rotOpnd .rr (.reg .H) s

/-- `RR L` (CB 1D), 46_extended_cb.md R297; cost 8/2. -/
def execRr_L (s : State) : Result := rotOpnd .rr (.reg .L) s

/-- `RR [HL]` (CB 1E), 46_extended_cb.md R298; cost 16/4. -/
def execRr_atHL (s : State) : Result := rotOpnd .rr .atHL s

/-- `RR A` (CB 1F), 46_extended_cb.md R297; cost 8/2. -/
def execRr_A (s : State) : Result := rotOpnd .rr (.reg .A) s

/-- `SLA B` (CB 20), 46_extended_cb.md R299; cost 8/2. -/
def execSla_B (s : State) : Result := rotOpnd .sla (.reg .B) s

/-- `SLA C` (CB 21), 46_extended_cb.md R299; cost 8/2. -/
def execSla_C (s : State) : Result := rotOpnd .sla (.reg .C) s

/-- `SLA D` (CB 22), 46_extended_cb.md R299; cost 8/2. -/
def execSla_D (s : State) : Result := rotOpnd .sla (.reg .D) s

/-- `SLA E` (CB 23), 46_extended_cb.md R299; cost 8/2. -/
def execSla_E (s : State) : Result := rotOpnd .sla (.reg .E) s

/-- `SLA H` (CB 24), 46_extended_cb.md R299; cost 8/2. -/
def execSla_H (s : State) : Result := rotOpnd .sla (.reg .H) s

/-- `SLA L` (CB 25), 46_extended_cb.md R299; cost 8/2. -/
def execSla_L (s : State) : Result := rotOpnd .sla (.reg .L) s

/-- `SLA [HL]` (CB 26), 46_extended_cb.md R300; cost 16/4. -/
def execSla_atHL (s : State) : Result := rotOpnd .sla .atHL s

/-- `SLA A` (CB 27), 46_extended_cb.md R299; cost 8/2. -/
def execSla_A (s : State) : Result := rotOpnd .sla (.reg .A) s

/-- `SRA B` (CB 28), 46_extended_cb.md R301; cost 8/2. -/
def execSra_B (s : State) : Result := rotOpnd .sra (.reg .B) s

/-- `SRA C` (CB 29), 46_extended_cb.md R301; cost 8/2. -/
def execSra_C (s : State) : Result := rotOpnd .sra (.reg .C) s

/-- `SRA D` (CB 2A), 46_extended_cb.md R301; cost 8/2. -/
def execSra_D (s : State) : Result := rotOpnd .sra (.reg .D) s

/-- `SRA E` (CB 2B), 46_extended_cb.md R301; cost 8/2. -/
def execSra_E (s : State) : Result := rotOpnd .sra (.reg .E) s

/-- `SRA H` (CB 2C), 46_extended_cb.md R301; cost 8/2. -/
def execSra_H (s : State) : Result := rotOpnd .sra (.reg .H) s

/-- `SRA L` (CB 2D), 46_extended_cb.md R301; cost 8/2. -/
def execSra_L (s : State) : Result := rotOpnd .sra (.reg .L) s

/-- `SRA [HL]` (CB 2E), 46_extended_cb.md R302; cost 16/4. -/
def execSra_atHL (s : State) : Result := rotOpnd .sra .atHL s

/-- `SRA A` (CB 2F), 46_extended_cb.md R301; cost 8/2. -/
def execSra_A (s : State) : Result := rotOpnd .sra (.reg .A) s

/-- `SWAP B` (CB 30), 46_extended_cb.md R303; cost 8/2. -/
def execSwap_B (s : State) : Result := rotOpnd .swap (.reg .B) s

/-- `SWAP C` (CB 31), 46_extended_cb.md R303; cost 8/2. -/
def execSwap_C (s : State) : Result := rotOpnd .swap (.reg .C) s

/-- `SWAP D` (CB 32), 46_extended_cb.md R303; cost 8/2. -/
def execSwap_D (s : State) : Result := rotOpnd .swap (.reg .D) s

/-- `SWAP E` (CB 33), 46_extended_cb.md R303; cost 8/2. -/
def execSwap_E (s : State) : Result := rotOpnd .swap (.reg .E) s

/-- `SWAP H` (CB 34), 46_extended_cb.md R303; cost 8/2. -/
def execSwap_H (s : State) : Result := rotOpnd .swap (.reg .H) s

/-- `SWAP L` (CB 35), 46_extended_cb.md R303; cost 8/2. -/
def execSwap_L (s : State) : Result := rotOpnd .swap (.reg .L) s

/-- `SWAP [HL]` (CB 36), 46_extended_cb.md R304; cost 16/4. -/
def execSwap_atHL (s : State) : Result := rotOpnd .swap .atHL s

/-- `SWAP A` (CB 37), 46_extended_cb.md R303; cost 8/2. -/
def execSwap_A (s : State) : Result := rotOpnd .swap (.reg .A) s

/-- `SRL B` (CB 38), 46_extended_cb.md R305; cost 8/2. -/
def execSrl_B (s : State) : Result := rotOpnd .srl (.reg .B) s

/-- `SRL C` (CB 39), 46_extended_cb.md R305; cost 8/2. -/
def execSrl_C (s : State) : Result := rotOpnd .srl (.reg .C) s

/-- `SRL D` (CB 3A), 46_extended_cb.md R305; cost 8/2. -/
def execSrl_D (s : State) : Result := rotOpnd .srl (.reg .D) s

/-- `SRL E` (CB 3B), 46_extended_cb.md R305; cost 8/2. -/
def execSrl_E (s : State) : Result := rotOpnd .srl (.reg .E) s

/-- `SRL H` (CB 3C), 46_extended_cb.md R305; cost 8/2. -/
def execSrl_H (s : State) : Result := rotOpnd .srl (.reg .H) s

/-- `SRL L` (CB 3D), 46_extended_cb.md R305; cost 8/2. -/
def execSrl_L (s : State) : Result := rotOpnd .srl (.reg .L) s

/-- `SRL [HL]` (CB 3E), 46_extended_cb.md R306; cost 16/4. -/
def execSrl_atHL (s : State) : Result := rotOpnd .srl .atHL s

/-- `SRL A` (CB 3F), 46_extended_cb.md R305; cost 8/2. -/
def execSrl_A (s : State) : Result := rotOpnd .srl (.reg .A) s

end Sys2Proof.Machine
end

