-- ==== Sys2Proof/Machine/Bits.lean ====
section
/-! DEFINITION. BIT, RES and SET of the extended table (46_extended_cb.md R281, R307 to R312): the shared operation of each
form, then one meaning per instruction. -/
namespace Sys2Proof.Machine

/-- The cost of `BIT` (46_extended_cb.md R281, R307, R308). -/
def testCost : Opnd8 → Nat
  | .reg _ => 8
  | .atHL => Config.bitHLT

/-- `BIT n` on a register or on `[HL]` (46_extended_cb.md R307, R308): Z is the complement of the bit, C unchanged. -/
def bitOpnd (n : Fin 8) (o : Opnd8) (s : State) : Result :=
  let r := s.readOpnd o
  .next ((r.2.setZNH (!r.1.getLsbD n.val) false true).clk (testCost o))

/-- `RES n` on a register or on `[HL]` (46_extended_cb.md R309, R310): no flag changes. -/
def resOpnd (n : Fin 8) (o : Opnd8) (s : State) : Result :=
  let r := s.readOpnd o
  .next ((r.2.writeOpnd o (resBit n r.1)).clk (modifyCost o))

/-- `SET n` on a register or on `[HL]` (46_extended_cb.md R311, R312): no flag changes. -/
def setOpnd (n : Fin 8) (o : Opnd8) (s : State) : Result :=
  let r := s.readOpnd o
  .next ((r.2.writeOpnd o (setBit n r.1)).clk (modifyCost o))

/-- `BIT 0,B` (CB 40), 46_extended_cb.md R307; cost 8/2. -/
def execBit_0_B (s : State) : Result := bitOpnd 0 (.reg .B) s

/-- `BIT 0,C` (CB 41), 46_extended_cb.md R307; cost 8/2. -/
def execBit_0_C (s : State) : Result := bitOpnd 0 (.reg .C) s

/-- `BIT 0,D` (CB 42), 46_extended_cb.md R307; cost 8/2. -/
def execBit_0_D (s : State) : Result := bitOpnd 0 (.reg .D) s

/-- `BIT 0,E` (CB 43), 46_extended_cb.md R307; cost 8/2. -/
def execBit_0_E (s : State) : Result := bitOpnd 0 (.reg .E) s

/-- `BIT 0,H` (CB 44), 46_extended_cb.md R307; cost 8/2. -/
def execBit_0_H (s : State) : Result := bitOpnd 0 (.reg .H) s

/-- `BIT 0,L` (CB 45), 46_extended_cb.md R307; cost 8/2. -/
def execBit_0_L (s : State) : Result := bitOpnd 0 (.reg .L) s

/-- `BIT 0,[HL]` (CB 46), 46_extended_cb.md R308; cost 16/4. -/
def execBit_0_atHL (s : State) : Result := bitOpnd 0 .atHL s

/-- `BIT 0,A` (CB 47), 46_extended_cb.md R307; cost 8/2. -/
def execBit_0_A (s : State) : Result := bitOpnd 0 (.reg .A) s

/-- `BIT 1,B` (CB 48), 46_extended_cb.md R307; cost 8/2. -/
def execBit_1_B (s : State) : Result := bitOpnd 1 (.reg .B) s

/-- `BIT 1,C` (CB 49), 46_extended_cb.md R307; cost 8/2. -/
def execBit_1_C (s : State) : Result := bitOpnd 1 (.reg .C) s

/-- `BIT 1,D` (CB 4A), 46_extended_cb.md R307; cost 8/2. -/
def execBit_1_D (s : State) : Result := bitOpnd 1 (.reg .D) s

/-- `BIT 1,E` (CB 4B), 46_extended_cb.md R307; cost 8/2. -/
def execBit_1_E (s : State) : Result := bitOpnd 1 (.reg .E) s

/-- `BIT 1,H` (CB 4C), 46_extended_cb.md R307; cost 8/2. -/
def execBit_1_H (s : State) : Result := bitOpnd 1 (.reg .H) s

/-- `BIT 1,L` (CB 4D), 46_extended_cb.md R307; cost 8/2. -/
def execBit_1_L (s : State) : Result := bitOpnd 1 (.reg .L) s

/-- `BIT 1,[HL]` (CB 4E), 46_extended_cb.md R308; cost 16/4. -/
def execBit_1_atHL (s : State) : Result := bitOpnd 1 .atHL s

/-- `BIT 1,A` (CB 4F), 46_extended_cb.md R307; cost 8/2. -/
def execBit_1_A (s : State) : Result := bitOpnd 1 (.reg .A) s

/-- `BIT 2,B` (CB 50), 46_extended_cb.md R307; cost 8/2. -/
def execBit_2_B (s : State) : Result := bitOpnd 2 (.reg .B) s

/-- `BIT 2,C` (CB 51), 46_extended_cb.md R307; cost 8/2. -/
def execBit_2_C (s : State) : Result := bitOpnd 2 (.reg .C) s

/-- `BIT 2,D` (CB 52), 46_extended_cb.md R307; cost 8/2. -/
def execBit_2_D (s : State) : Result := bitOpnd 2 (.reg .D) s

/-- `BIT 2,E` (CB 53), 46_extended_cb.md R307; cost 8/2. -/
def execBit_2_E (s : State) : Result := bitOpnd 2 (.reg .E) s

/-- `BIT 2,H` (CB 54), 46_extended_cb.md R307; cost 8/2. -/
def execBit_2_H (s : State) : Result := bitOpnd 2 (.reg .H) s

/-- `BIT 2,L` (CB 55), 46_extended_cb.md R307; cost 8/2. -/
def execBit_2_L (s : State) : Result := bitOpnd 2 (.reg .L) s

/-- `BIT 2,[HL]` (CB 56), 46_extended_cb.md R308; cost 16/4. -/
def execBit_2_atHL (s : State) : Result := bitOpnd 2 .atHL s

/-- `BIT 2,A` (CB 57), 46_extended_cb.md R307; cost 8/2. -/
def execBit_2_A (s : State) : Result := bitOpnd 2 (.reg .A) s

/-- `BIT 3,B` (CB 58), 46_extended_cb.md R307; cost 8/2. -/
def execBit_3_B (s : State) : Result := bitOpnd 3 (.reg .B) s

/-- `BIT 3,C` (CB 59), 46_extended_cb.md R307; cost 8/2. -/
def execBit_3_C (s : State) : Result := bitOpnd 3 (.reg .C) s

/-- `BIT 3,D` (CB 5A), 46_extended_cb.md R307; cost 8/2. -/
def execBit_3_D (s : State) : Result := bitOpnd 3 (.reg .D) s

/-- `BIT 3,E` (CB 5B), 46_extended_cb.md R307; cost 8/2. -/
def execBit_3_E (s : State) : Result := bitOpnd 3 (.reg .E) s

/-- `BIT 3,H` (CB 5C), 46_extended_cb.md R307; cost 8/2. -/
def execBit_3_H (s : State) : Result := bitOpnd 3 (.reg .H) s

/-- `BIT 3,L` (CB 5D), 46_extended_cb.md R307; cost 8/2. -/
def execBit_3_L (s : State) : Result := bitOpnd 3 (.reg .L) s

/-- `BIT 3,[HL]` (CB 5E), 46_extended_cb.md R308; cost 16/4. -/
def execBit_3_atHL (s : State) : Result := bitOpnd 3 .atHL s

/-- `BIT 3,A` (CB 5F), 46_extended_cb.md R307; cost 8/2. -/
def execBit_3_A (s : State) : Result := bitOpnd 3 (.reg .A) s

/-- `BIT 4,B` (CB 60), 46_extended_cb.md R307; cost 8/2. -/
def execBit_4_B (s : State) : Result := bitOpnd 4 (.reg .B) s

/-- `BIT 4,C` (CB 61), 46_extended_cb.md R307; cost 8/2. -/
def execBit_4_C (s : State) : Result := bitOpnd 4 (.reg .C) s

/-- `BIT 4,D` (CB 62), 46_extended_cb.md R307; cost 8/2. -/
def execBit_4_D (s : State) : Result := bitOpnd 4 (.reg .D) s

/-- `BIT 4,E` (CB 63), 46_extended_cb.md R307; cost 8/2. -/
def execBit_4_E (s : State) : Result := bitOpnd 4 (.reg .E) s

/-- `BIT 4,H` (CB 64), 46_extended_cb.md R307; cost 8/2. -/
def execBit_4_H (s : State) : Result := bitOpnd 4 (.reg .H) s

/-- `BIT 4,L` (CB 65), 46_extended_cb.md R307; cost 8/2. -/
def execBit_4_L (s : State) : Result := bitOpnd 4 (.reg .L) s

/-- `BIT 4,[HL]` (CB 66), 46_extended_cb.md R308; cost 16/4. -/
def execBit_4_atHL (s : State) : Result := bitOpnd 4 .atHL s

/-- `BIT 4,A` (CB 67), 46_extended_cb.md R307; cost 8/2. -/
def execBit_4_A (s : State) : Result := bitOpnd 4 (.reg .A) s

/-- `BIT 5,B` (CB 68), 46_extended_cb.md R307; cost 8/2. -/
def execBit_5_B (s : State) : Result := bitOpnd 5 (.reg .B) s

/-- `BIT 5,C` (CB 69), 46_extended_cb.md R307; cost 8/2. -/
def execBit_5_C (s : State) : Result := bitOpnd 5 (.reg .C) s

/-- `BIT 5,D` (CB 6A), 46_extended_cb.md R307; cost 8/2. -/
def execBit_5_D (s : State) : Result := bitOpnd 5 (.reg .D) s

/-- `BIT 5,E` (CB 6B), 46_extended_cb.md R307; cost 8/2. -/
def execBit_5_E (s : State) : Result := bitOpnd 5 (.reg .E) s

/-- `BIT 5,H` (CB 6C), 46_extended_cb.md R307; cost 8/2. -/
def execBit_5_H (s : State) : Result := bitOpnd 5 (.reg .H) s

/-- `BIT 5,L` (CB 6D), 46_extended_cb.md R307; cost 8/2. -/
def execBit_5_L (s : State) : Result := bitOpnd 5 (.reg .L) s

/-- `BIT 5,[HL]` (CB 6E), 46_extended_cb.md R308; cost 16/4. -/
def execBit_5_atHL (s : State) : Result := bitOpnd 5 .atHL s

/-- `BIT 5,A` (CB 6F), 46_extended_cb.md R307; cost 8/2. -/
def execBit_5_A (s : State) : Result := bitOpnd 5 (.reg .A) s

/-- `BIT 6,B` (CB 70), 46_extended_cb.md R307; cost 8/2. -/
def execBit_6_B (s : State) : Result := bitOpnd 6 (.reg .B) s

/-- `BIT 6,C` (CB 71), 46_extended_cb.md R307; cost 8/2. -/
def execBit_6_C (s : State) : Result := bitOpnd 6 (.reg .C) s

/-- `BIT 6,D` (CB 72), 46_extended_cb.md R307; cost 8/2. -/
def execBit_6_D (s : State) : Result := bitOpnd 6 (.reg .D) s

/-- `BIT 6,E` (CB 73), 46_extended_cb.md R307; cost 8/2. -/
def execBit_6_E (s : State) : Result := bitOpnd 6 (.reg .E) s

/-- `BIT 6,H` (CB 74), 46_extended_cb.md R307; cost 8/2. -/
def execBit_6_H (s : State) : Result := bitOpnd 6 (.reg .H) s

/-- `BIT 6,L` (CB 75), 46_extended_cb.md R307; cost 8/2. -/
def execBit_6_L (s : State) : Result := bitOpnd 6 (.reg .L) s

/-- `BIT 6,[HL]` (CB 76), 46_extended_cb.md R308; cost 16/4. -/
def execBit_6_atHL (s : State) : Result := bitOpnd 6 .atHL s

/-- `BIT 6,A` (CB 77), 46_extended_cb.md R307; cost 8/2. -/
def execBit_6_A (s : State) : Result := bitOpnd 6 (.reg .A) s

/-- `BIT 7,B` (CB 78), 46_extended_cb.md R307; cost 8/2. -/
def execBit_7_B (s : State) : Result := bitOpnd 7 (.reg .B) s

/-- `BIT 7,C` (CB 79), 46_extended_cb.md R307; cost 8/2. -/
def execBit_7_C (s : State) : Result := bitOpnd 7 (.reg .C) s

/-- `BIT 7,D` (CB 7A), 46_extended_cb.md R307; cost 8/2. -/
def execBit_7_D (s : State) : Result := bitOpnd 7 (.reg .D) s

/-- `BIT 7,E` (CB 7B), 46_extended_cb.md R307; cost 8/2. -/
def execBit_7_E (s : State) : Result := bitOpnd 7 (.reg .E) s

/-- `BIT 7,H` (CB 7C), 46_extended_cb.md R307; cost 8/2. -/
def execBit_7_H (s : State) : Result := bitOpnd 7 (.reg .H) s

/-- `BIT 7,L` (CB 7D), 46_extended_cb.md R307; cost 8/2. -/
def execBit_7_L (s : State) : Result := bitOpnd 7 (.reg .L) s

/-- `BIT 7,[HL]` (CB 7E), 46_extended_cb.md R308; cost 16/4. -/
def execBit_7_atHL (s : State) : Result := bitOpnd 7 .atHL s

/-- `BIT 7,A` (CB 7F), 46_extended_cb.md R307; cost 8/2. -/
def execBit_7_A (s : State) : Result := bitOpnd 7 (.reg .A) s

/-- `RES 0,B` (CB 80), 46_extended_cb.md R309; cost 8/2. -/
def execRes_0_B (s : State) : Result := resOpnd 0 (.reg .B) s

/-- `RES 0,C` (CB 81), 46_extended_cb.md R309; cost 8/2. -/
def execRes_0_C (s : State) : Result := resOpnd 0 (.reg .C) s

/-- `RES 0,D` (CB 82), 46_extended_cb.md R309; cost 8/2. -/
def execRes_0_D (s : State) : Result := resOpnd 0 (.reg .D) s

/-- `RES 0,E` (CB 83), 46_extended_cb.md R309; cost 8/2. -/
def execRes_0_E (s : State) : Result := resOpnd 0 (.reg .E) s

/-- `RES 0,H` (CB 84), 46_extended_cb.md R309; cost 8/2. -/
def execRes_0_H (s : State) : Result := resOpnd 0 (.reg .H) s

/-- `RES 0,L` (CB 85), 46_extended_cb.md R309; cost 8/2. -/
def execRes_0_L (s : State) : Result := resOpnd 0 (.reg .L) s

/-- `RES 0,[HL]` (CB 86), 46_extended_cb.md R310; cost 16/4. -/
def execRes_0_atHL (s : State) : Result := resOpnd 0 .atHL s

/-- `RES 0,A` (CB 87), 46_extended_cb.md R309; cost 8/2. -/
def execRes_0_A (s : State) : Result := resOpnd 0 (.reg .A) s

/-- `RES 1,B` (CB 88), 46_extended_cb.md R309; cost 8/2. -/
def execRes_1_B (s : State) : Result := resOpnd 1 (.reg .B) s

/-- `RES 1,C` (CB 89), 46_extended_cb.md R309; cost 8/2. -/
def execRes_1_C (s : State) : Result := resOpnd 1 (.reg .C) s

/-- `RES 1,D` (CB 8A), 46_extended_cb.md R309; cost 8/2. -/
def execRes_1_D (s : State) : Result := resOpnd 1 (.reg .D) s

/-- `RES 1,E` (CB 8B), 46_extended_cb.md R309; cost 8/2. -/
def execRes_1_E (s : State) : Result := resOpnd 1 (.reg .E) s

/-- `RES 1,H` (CB 8C), 46_extended_cb.md R309; cost 8/2. -/
def execRes_1_H (s : State) : Result := resOpnd 1 (.reg .H) s

/-- `RES 1,L` (CB 8D), 46_extended_cb.md R309; cost 8/2. -/
def execRes_1_L (s : State) : Result := resOpnd 1 (.reg .L) s

/-- `RES 1,[HL]` (CB 8E), 46_extended_cb.md R310; cost 16/4. -/
def execRes_1_atHL (s : State) : Result := resOpnd 1 .atHL s

/-- `RES 1,A` (CB 8F), 46_extended_cb.md R309; cost 8/2. -/
def execRes_1_A (s : State) : Result := resOpnd 1 (.reg .A) s

/-- `RES 2,B` (CB 90), 46_extended_cb.md R309; cost 8/2. -/
def execRes_2_B (s : State) : Result := resOpnd 2 (.reg .B) s

/-- `RES 2,C` (CB 91), 46_extended_cb.md R309; cost 8/2. -/
def execRes_2_C (s : State) : Result := resOpnd 2 (.reg .C) s

/-- `RES 2,D` (CB 92), 46_extended_cb.md R309; cost 8/2. -/
def execRes_2_D (s : State) : Result := resOpnd 2 (.reg .D) s

/-- `RES 2,E` (CB 93), 46_extended_cb.md R309; cost 8/2. -/
def execRes_2_E (s : State) : Result := resOpnd 2 (.reg .E) s

/-- `RES 2,H` (CB 94), 46_extended_cb.md R309; cost 8/2. -/
def execRes_2_H (s : State) : Result := resOpnd 2 (.reg .H) s

/-- `RES 2,L` (CB 95), 46_extended_cb.md R309; cost 8/2. -/
def execRes_2_L (s : State) : Result := resOpnd 2 (.reg .L) s

/-- `RES 2,[HL]` (CB 96), 46_extended_cb.md R310; cost 16/4. -/
def execRes_2_atHL (s : State) : Result := resOpnd 2 .atHL s

/-- `RES 2,A` (CB 97), 46_extended_cb.md R309; cost 8/2. -/
def execRes_2_A (s : State) : Result := resOpnd 2 (.reg .A) s

/-- `RES 3,B` (CB 98), 46_extended_cb.md R309; cost 8/2. -/
def execRes_3_B (s : State) : Result := resOpnd 3 (.reg .B) s

/-- `RES 3,C` (CB 99), 46_extended_cb.md R309; cost 8/2. -/
def execRes_3_C (s : State) : Result := resOpnd 3 (.reg .C) s

/-- `RES 3,D` (CB 9A), 46_extended_cb.md R309; cost 8/2. -/
def execRes_3_D (s : State) : Result := resOpnd 3 (.reg .D) s

/-- `RES 3,E` (CB 9B), 46_extended_cb.md R309; cost 8/2. -/
def execRes_3_E (s : State) : Result := resOpnd 3 (.reg .E) s

/-- `RES 3,H` (CB 9C), 46_extended_cb.md R309; cost 8/2. -/
def execRes_3_H (s : State) : Result := resOpnd 3 (.reg .H) s

/-- `RES 3,L` (CB 9D), 46_extended_cb.md R309; cost 8/2. -/
def execRes_3_L (s : State) : Result := resOpnd 3 (.reg .L) s

/-- `RES 3,[HL]` (CB 9E), 46_extended_cb.md R310; cost 16/4. -/
def execRes_3_atHL (s : State) : Result := resOpnd 3 .atHL s

/-- `RES 3,A` (CB 9F), 46_extended_cb.md R309; cost 8/2. -/
def execRes_3_A (s : State) : Result := resOpnd 3 (.reg .A) s

/-- `RES 4,B` (CB A0), 46_extended_cb.md R309; cost 8/2. -/
def execRes_4_B (s : State) : Result := resOpnd 4 (.reg .B) s

/-- `RES 4,C` (CB A1), 46_extended_cb.md R309; cost 8/2. -/
def execRes_4_C (s : State) : Result := resOpnd 4 (.reg .C) s

/-- `RES 4,D` (CB A2), 46_extended_cb.md R309; cost 8/2. -/
def execRes_4_D (s : State) : Result := resOpnd 4 (.reg .D) s

/-- `RES 4,E` (CB A3), 46_extended_cb.md R309; cost 8/2. -/
def execRes_4_E (s : State) : Result := resOpnd 4 (.reg .E) s

/-- `RES 4,H` (CB A4), 46_extended_cb.md R309; cost 8/2. -/
def execRes_4_H (s : State) : Result := resOpnd 4 (.reg .H) s

/-- `RES 4,L` (CB A5), 46_extended_cb.md R309; cost 8/2. -/
def execRes_4_L (s : State) : Result := resOpnd 4 (.reg .L) s

/-- `RES 4,[HL]` (CB A6), 46_extended_cb.md R310; cost 16/4. -/
def execRes_4_atHL (s : State) : Result := resOpnd 4 .atHL s

/-- `RES 4,A` (CB A7), 46_extended_cb.md R309; cost 8/2. -/
def execRes_4_A (s : State) : Result := resOpnd 4 (.reg .A) s

/-- `RES 5,B` (CB A8), 46_extended_cb.md R309; cost 8/2. -/
def execRes_5_B (s : State) : Result := resOpnd 5 (.reg .B) s

/-- `RES 5,C` (CB A9), 46_extended_cb.md R309; cost 8/2. -/
def execRes_5_C (s : State) : Result := resOpnd 5 (.reg .C) s

/-- `RES 5,D` (CB AA), 46_extended_cb.md R309; cost 8/2. -/
def execRes_5_D (s : State) : Result := resOpnd 5 (.reg .D) s

/-- `RES 5,E` (CB AB), 46_extended_cb.md R309; cost 8/2. -/
def execRes_5_E (s : State) : Result := resOpnd 5 (.reg .E) s

/-- `RES 5,H` (CB AC), 46_extended_cb.md R309; cost 8/2. -/
def execRes_5_H (s : State) : Result := resOpnd 5 (.reg .H) s

/-- `RES 5,L` (CB AD), 46_extended_cb.md R309; cost 8/2. -/
def execRes_5_L (s : State) : Result := resOpnd 5 (.reg .L) s

/-- `RES 5,[HL]` (CB AE), 46_extended_cb.md R310; cost 16/4. -/
def execRes_5_atHL (s : State) : Result := resOpnd 5 .atHL s

/-- `RES 5,A` (CB AF), 46_extended_cb.md R309; cost 8/2. -/
def execRes_5_A (s : State) : Result := resOpnd 5 (.reg .A) s

/-- `RES 6,B` (CB B0), 46_extended_cb.md R309; cost 8/2. -/
def execRes_6_B (s : State) : Result := resOpnd 6 (.reg .B) s

/-- `RES 6,C` (CB B1), 46_extended_cb.md R309; cost 8/2. -/
def execRes_6_C (s : State) : Result := resOpnd 6 (.reg .C) s

/-- `RES 6,D` (CB B2), 46_extended_cb.md R309; cost 8/2. -/
def execRes_6_D (s : State) : Result := resOpnd 6 (.reg .D) s

/-- `RES 6,E` (CB B3), 46_extended_cb.md R309; cost 8/2. -/
def execRes_6_E (s : State) : Result := resOpnd 6 (.reg .E) s

/-- `RES 6,H` (CB B4), 46_extended_cb.md R309; cost 8/2. -/
def execRes_6_H (s : State) : Result := resOpnd 6 (.reg .H) s

/-- `RES 6,L` (CB B5), 46_extended_cb.md R309; cost 8/2. -/
def execRes_6_L (s : State) : Result := resOpnd 6 (.reg .L) s

/-- `RES 6,[HL]` (CB B6), 46_extended_cb.md R310; cost 16/4. -/
def execRes_6_atHL (s : State) : Result := resOpnd 6 .atHL s

/-- `RES 6,A` (CB B7), 46_extended_cb.md R309; cost 8/2. -/
def execRes_6_A (s : State) : Result := resOpnd 6 (.reg .A) s

/-- `RES 7,B` (CB B8), 46_extended_cb.md R309; cost 8/2. -/
def execRes_7_B (s : State) : Result := resOpnd 7 (.reg .B) s

/-- `RES 7,C` (CB B9), 46_extended_cb.md R309; cost 8/2. -/
def execRes_7_C (s : State) : Result := resOpnd 7 (.reg .C) s

/-- `RES 7,D` (CB BA), 46_extended_cb.md R309; cost 8/2. -/
def execRes_7_D (s : State) : Result := resOpnd 7 (.reg .D) s

/-- `RES 7,E` (CB BB), 46_extended_cb.md R309; cost 8/2. -/
def execRes_7_E (s : State) : Result := resOpnd 7 (.reg .E) s

/-- `RES 7,H` (CB BC), 46_extended_cb.md R309; cost 8/2. -/
def execRes_7_H (s : State) : Result := resOpnd 7 (.reg .H) s

/-- `RES 7,L` (CB BD), 46_extended_cb.md R309; cost 8/2. -/
def execRes_7_L (s : State) : Result := resOpnd 7 (.reg .L) s

/-- `RES 7,[HL]` (CB BE), 46_extended_cb.md R310; cost 16/4. -/
def execRes_7_atHL (s : State) : Result := resOpnd 7 .atHL s

/-- `RES 7,A` (CB BF), 46_extended_cb.md R309; cost 8/2. -/
def execRes_7_A (s : State) : Result := resOpnd 7 (.reg .A) s

/-- `SET 0,B` (CB C0), 46_extended_cb.md R311; cost 8/2. -/
def execSet_0_B (s : State) : Result := setOpnd 0 (.reg .B) s

/-- `SET 0,C` (CB C1), 46_extended_cb.md R311; cost 8/2. -/
def execSet_0_C (s : State) : Result := setOpnd 0 (.reg .C) s

/-- `SET 0,D` (CB C2), 46_extended_cb.md R311; cost 8/2. -/
def execSet_0_D (s : State) : Result := setOpnd 0 (.reg .D) s

/-- `SET 0,E` (CB C3), 46_extended_cb.md R311; cost 8/2. -/
def execSet_0_E (s : State) : Result := setOpnd 0 (.reg .E) s

/-- `SET 0,H` (CB C4), 46_extended_cb.md R311; cost 8/2. -/
def execSet_0_H (s : State) : Result := setOpnd 0 (.reg .H) s

/-- `SET 0,L` (CB C5), 46_extended_cb.md R311; cost 8/2. -/
def execSet_0_L (s : State) : Result := setOpnd 0 (.reg .L) s

/-- `SET 0,[HL]` (CB C6), 46_extended_cb.md R312; cost 16/4. -/
def execSet_0_atHL (s : State) : Result := setOpnd 0 .atHL s

/-- `SET 0,A` (CB C7), 46_extended_cb.md R311; cost 8/2. -/
def execSet_0_A (s : State) : Result := setOpnd 0 (.reg .A) s

/-- `SET 1,B` (CB C8), 46_extended_cb.md R311; cost 8/2. -/
def execSet_1_B (s : State) : Result := setOpnd 1 (.reg .B) s

/-- `SET 1,C` (CB C9), 46_extended_cb.md R311; cost 8/2. -/
def execSet_1_C (s : State) : Result := setOpnd 1 (.reg .C) s

/-- `SET 1,D` (CB CA), 46_extended_cb.md R311; cost 8/2. -/
def execSet_1_D (s : State) : Result := setOpnd 1 (.reg .D) s

/-- `SET 1,E` (CB CB), 46_extended_cb.md R311; cost 8/2. -/
def execSet_1_E (s : State) : Result := setOpnd 1 (.reg .E) s

/-- `SET 1,H` (CB CC), 46_extended_cb.md R311; cost 8/2. -/
def execSet_1_H (s : State) : Result := setOpnd 1 (.reg .H) s

/-- `SET 1,L` (CB CD), 46_extended_cb.md R311; cost 8/2. -/
def execSet_1_L (s : State) : Result := setOpnd 1 (.reg .L) s

/-- `SET 1,[HL]` (CB CE), 46_extended_cb.md R312; cost 16/4. -/
def execSet_1_atHL (s : State) : Result := setOpnd 1 .atHL s

/-- `SET 1,A` (CB CF), 46_extended_cb.md R311; cost 8/2. -/
def execSet_1_A (s : State) : Result := setOpnd 1 (.reg .A) s

/-- `SET 2,B` (CB D0), 46_extended_cb.md R311; cost 8/2. -/
def execSet_2_B (s : State) : Result := setOpnd 2 (.reg .B) s

/-- `SET 2,C` (CB D1), 46_extended_cb.md R311; cost 8/2. -/
def execSet_2_C (s : State) : Result := setOpnd 2 (.reg .C) s

/-- `SET 2,D` (CB D2), 46_extended_cb.md R311; cost 8/2. -/
def execSet_2_D (s : State) : Result := setOpnd 2 (.reg .D) s

/-- `SET 2,E` (CB D3), 46_extended_cb.md R311; cost 8/2. -/
def execSet_2_E (s : State) : Result := setOpnd 2 (.reg .E) s

/-- `SET 2,H` (CB D4), 46_extended_cb.md R311; cost 8/2. -/
def execSet_2_H (s : State) : Result := setOpnd 2 (.reg .H) s

/-- `SET 2,L` (CB D5), 46_extended_cb.md R311; cost 8/2. -/
def execSet_2_L (s : State) : Result := setOpnd 2 (.reg .L) s

/-- `SET 2,[HL]` (CB D6), 46_extended_cb.md R312; cost 16/4. -/
def execSet_2_atHL (s : State) : Result := setOpnd 2 .atHL s

/-- `SET 2,A` (CB D7), 46_extended_cb.md R311; cost 8/2. -/
def execSet_2_A (s : State) : Result := setOpnd 2 (.reg .A) s

/-- `SET 3,B` (CB D8), 46_extended_cb.md R311; cost 8/2. -/
def execSet_3_B (s : State) : Result := setOpnd 3 (.reg .B) s

/-- `SET 3,C` (CB D9), 46_extended_cb.md R311; cost 8/2. -/
def execSet_3_C (s : State) : Result := setOpnd 3 (.reg .C) s

/-- `SET 3,D` (CB DA), 46_extended_cb.md R311; cost 8/2. -/
def execSet_3_D (s : State) : Result := setOpnd 3 (.reg .D) s

/-- `SET 3,E` (CB DB), 46_extended_cb.md R311; cost 8/2. -/
def execSet_3_E (s : State) : Result := setOpnd 3 (.reg .E) s

/-- `SET 3,H` (CB DC), 46_extended_cb.md R311; cost 8/2. -/
def execSet_3_H (s : State) : Result := setOpnd 3 (.reg .H) s

/-- `SET 3,L` (CB DD), 46_extended_cb.md R311; cost 8/2. -/
def execSet_3_L (s : State) : Result := setOpnd 3 (.reg .L) s

/-- `SET 3,[HL]` (CB DE), 46_extended_cb.md R312; cost 16/4. -/
def execSet_3_atHL (s : State) : Result := setOpnd 3 .atHL s

/-- `SET 3,A` (CB DF), 46_extended_cb.md R311; cost 8/2. -/
def execSet_3_A (s : State) : Result := setOpnd 3 (.reg .A) s

/-- `SET 4,B` (CB E0), 46_extended_cb.md R311; cost 8/2. -/
def execSet_4_B (s : State) : Result := setOpnd 4 (.reg .B) s

/-- `SET 4,C` (CB E1), 46_extended_cb.md R311; cost 8/2. -/
def execSet_4_C (s : State) : Result := setOpnd 4 (.reg .C) s

/-- `SET 4,D` (CB E2), 46_extended_cb.md R311; cost 8/2. -/
def execSet_4_D (s : State) : Result := setOpnd 4 (.reg .D) s

/-- `SET 4,E` (CB E3), 46_extended_cb.md R311; cost 8/2. -/
def execSet_4_E (s : State) : Result := setOpnd 4 (.reg .E) s

/-- `SET 4,H` (CB E4), 46_extended_cb.md R311; cost 8/2. -/
def execSet_4_H (s : State) : Result := setOpnd 4 (.reg .H) s

/-- `SET 4,L` (CB E5), 46_extended_cb.md R311; cost 8/2. -/
def execSet_4_L (s : State) : Result := setOpnd 4 (.reg .L) s

/-- `SET 4,[HL]` (CB E6), 46_extended_cb.md R312; cost 16/4. -/
def execSet_4_atHL (s : State) : Result := setOpnd 4 .atHL s

/-- `SET 4,A` (CB E7), 46_extended_cb.md R311; cost 8/2. -/
def execSet_4_A (s : State) : Result := setOpnd 4 (.reg .A) s

/-- `SET 5,B` (CB E8), 46_extended_cb.md R311; cost 8/2. -/
def execSet_5_B (s : State) : Result := setOpnd 5 (.reg .B) s

/-- `SET 5,C` (CB E9), 46_extended_cb.md R311; cost 8/2. -/
def execSet_5_C (s : State) : Result := setOpnd 5 (.reg .C) s

/-- `SET 5,D` (CB EA), 46_extended_cb.md R311; cost 8/2. -/
def execSet_5_D (s : State) : Result := setOpnd 5 (.reg .D) s

/-- `SET 5,E` (CB EB), 46_extended_cb.md R311; cost 8/2. -/
def execSet_5_E (s : State) : Result := setOpnd 5 (.reg .E) s

/-- `SET 5,H` (CB EC), 46_extended_cb.md R311; cost 8/2. -/
def execSet_5_H (s : State) : Result := setOpnd 5 (.reg .H) s

/-- `SET 5,L` (CB ED), 46_extended_cb.md R311; cost 8/2. -/
def execSet_5_L (s : State) : Result := setOpnd 5 (.reg .L) s

/-- `SET 5,[HL]` (CB EE), 46_extended_cb.md R312; cost 16/4. -/
def execSet_5_atHL (s : State) : Result := setOpnd 5 .atHL s

/-- `SET 5,A` (CB EF), 46_extended_cb.md R311; cost 8/2. -/
def execSet_5_A (s : State) : Result := setOpnd 5 (.reg .A) s

/-- `SET 6,B` (CB F0), 46_extended_cb.md R311; cost 8/2. -/
def execSet_6_B (s : State) : Result := setOpnd 6 (.reg .B) s

/-- `SET 6,C` (CB F1), 46_extended_cb.md R311; cost 8/2. -/
def execSet_6_C (s : State) : Result := setOpnd 6 (.reg .C) s

/-- `SET 6,D` (CB F2), 46_extended_cb.md R311; cost 8/2. -/
def execSet_6_D (s : State) : Result := setOpnd 6 (.reg .D) s

/-- `SET 6,E` (CB F3), 46_extended_cb.md R311; cost 8/2. -/
def execSet_6_E (s : State) : Result := setOpnd 6 (.reg .E) s

/-- `SET 6,H` (CB F4), 46_extended_cb.md R311; cost 8/2. -/
def execSet_6_H (s : State) : Result := setOpnd 6 (.reg .H) s

/-- `SET 6,L` (CB F5), 46_extended_cb.md R311; cost 8/2. -/
def execSet_6_L (s : State) : Result := setOpnd 6 (.reg .L) s

/-- `SET 6,[HL]` (CB F6), 46_extended_cb.md R312; cost 16/4. -/
def execSet_6_atHL (s : State) : Result := setOpnd 6 .atHL s

/-- `SET 6,A` (CB F7), 46_extended_cb.md R311; cost 8/2. -/
def execSet_6_A (s : State) : Result := setOpnd 6 (.reg .A) s

/-- `SET 7,B` (CB F8), 46_extended_cb.md R311; cost 8/2. -/
def execSet_7_B (s : State) : Result := setOpnd 7 (.reg .B) s

/-- `SET 7,C` (CB F9), 46_extended_cb.md R311; cost 8/2. -/
def execSet_7_C (s : State) : Result := setOpnd 7 (.reg .C) s

/-- `SET 7,D` (CB FA), 46_extended_cb.md R311; cost 8/2. -/
def execSet_7_D (s : State) : Result := setOpnd 7 (.reg .D) s

/-- `SET 7,E` (CB FB), 46_extended_cb.md R311; cost 8/2. -/
def execSet_7_E (s : State) : Result := setOpnd 7 (.reg .E) s

/-- `SET 7,H` (CB FC), 46_extended_cb.md R311; cost 8/2. -/
def execSet_7_H (s : State) : Result := setOpnd 7 (.reg .H) s

/-- `SET 7,L` (CB FD), 46_extended_cb.md R311; cost 8/2. -/
def execSet_7_L (s : State) : Result := setOpnd 7 (.reg .L) s

/-- `SET 7,[HL]` (CB FE), 46_extended_cb.md R312; cost 16/4. -/
def execSet_7_atHL (s : State) : Result := setOpnd 7 .atHL s

/-- `SET 7,A` (CB FF), 46_extended_cb.md R311; cost 8/2. -/
def execSet_7_A (s : State) : Result := setOpnd 7 (.reg .A) s

end Sys2Proof.Machine
end

