-- ==== Sys2Proof/Machine/Control.lean ====
section
/-! DEFINITION. The stack and control-transfer instructions of 44_stack_control.md (R230 to R242): the shared operation of
each form, then one meaning per instruction. -/
namespace Sys2Proof.Machine

/-- `PUSH rr` (44_stack_control.md R230). -/
def pushPair (rr : StackPair) (s : State) : Result := .next ((s.push16 (s.r16s rr)).clk 16)

/-- `POP rr` (44_stack_control.md R231). -/
def popPair (rr : StackPair) (s : State) : Result :=
  let r := s.pop16
  .next ((r.2.setR16s rr r.1).clk 12)

/-- `JP a16` (44_stack_control.md R232). -/
def jumpTo (a16 : Word) (s : State) : Result := .next (((s.operand16 a16).setPC a16).clk 16)

/-- `JP HL` (44_stack_control.md R233): the value of `HL`, not a memory read. -/
def jumpHL (s : State) : Result := .next ((s.setPC s.hl).clk 4)

/-- `JP cc,a16` (44_stack_control.md R234): not taken, the operand is skipped, not read. -/
def jumpIf (cc : Cond) (a16 : Word) (s : State) : Result :=
  if s.cond cc then .next (((s.operand16 a16).setPC a16).clk 16) else .next ((s.skip 2#16).clk 12)

/-- The taken relative jump (44_stack_control.md R235): the base is `PC` after the displacement (log 17). -/
def State.branchRel (s : State) (r8 : Byte) : State := (s.operand8 r8).setPC (s.pc + 1#16 + sext16 r8)

/-- `JR r8` (44_stack_control.md R235). -/
def jumpRel (r8 : Byte) (s : State) : Result := .next ((s.branchRel r8).clk 12)

/-- `JR cc,r8` (44_stack_control.md R236): not taken, the displacement is skipped, not read. -/
def jumpRelIf (cc : Cond) (r8 : Byte) (s : State) : Result :=
  if s.cond cc then .next ((s.branchRel r8).clk 12) else .next ((s.skip 1#16).clk 8)

/-- The taken call (44_stack_control.md R237): fetch the target, push `PC`, go to the target. -/
def State.callFrom (s : State) (a16 : Word) : State := ((s.operand16 a16).push16 (s.pc + 2#16)).setPC a16

/-- `CALL a16` (44_stack_control.md R237). -/
def callTo (a16 : Word) (s : State) : Result := .next ((s.callFrom a16).clk 24)

/-- `CALL cc,a16` (44_stack_control.md R238): not taken, the operand is skipped, not read. -/
def callIf (cc : Cond) (a16 : Word) (s : State) : Result :=
  if s.cond cc then .next ((s.callFrom a16).clk 24) else .next ((s.skip 2#16).clk 12)

/-- The taken return (44_stack_control.md R239): `PC <- Pop16()`. -/
def State.popPC (s : State) : State :=
  let r := s.pop16
  r.2.setPC r.1

/-- `RET` (44_stack_control.md R239). -/
def returnPop (s : State) : Result := .next (s.popPC.clk 16)

/-- `RET cc` (44_stack_control.md R240): not taken, no bus access. -/
def returnIf (cc : Cond) (s : State) : Result := if s.cond cc then .next (s.popPC.clk 20) else .next (s.clk 8)

/-- `RETI` (44_stack_control.md R241; 60_exceptions.md R325): the return from an interrupt handler. -/
def returnEnable (s : State) : Result := .next ((s.popPC.setIME true).clk 16)

/-- `RST n` with `n = 8 * t` (44_stack_control.md R242): pushes the handler-entry `PC`. -/
def restart (t : Fin 8) (s : State) : Result :=
  .next (((s.push16 s.pc).setPC (BitVec.ofNat 16 (8 * t.val))).clk 16)

/-- `JR r8` (18), 44_stack_control.md R235; cost 12/3. -/
def execJr_r8 (r8 : Byte) (s : State) : Result := jumpRel r8 s

/-- `JR NZ,r8` (20), 44_stack_control.md R236; cost taken 12/3, not taken 8/2. -/
def execJr_NZ_r8 (r8 : Byte) (s : State) : Result := jumpRelIf .NZ r8 s

/-- `JR Z,r8` (28), 44_stack_control.md R236; cost taken 12/3, not taken 8/2. -/
def execJr_Z_r8 (r8 : Byte) (s : State) : Result := jumpRelIf .Z r8 s

/-- `JR NC,r8` (30), 44_stack_control.md R236; cost taken 12/3, not taken 8/2. -/
def execJr_NC_r8 (r8 : Byte) (s : State) : Result := jumpRelIf .NC r8 s

/-- `JR C,r8` (38), 44_stack_control.md R236; cost taken 12/3, not taken 8/2. -/
def execJr_C_r8 (r8 : Byte) (s : State) : Result := jumpRelIf .C r8 s

/-- `RET NZ` (C0), 44_stack_control.md R240; cost taken 20/5, not taken 8/2. -/
def execRet_NZ (s : State) : Result := returnIf .NZ s

/-- `POP BC` (C1), 44_stack_control.md R231; cost 12/3. -/
def execPop_BC (s : State) : Result := popPair .BC s

/-- `JP NZ,a16` (C2), 44_stack_control.md R234; cost taken 16/4, not taken 12/3. -/
def execJp_NZ_a16 (a16 : Word) (s : State) : Result := jumpIf .NZ a16 s

/-- `JP a16` (C3), 44_stack_control.md R232; cost 16/4. -/
def execJp_a16 (a16 : Word) (s : State) : Result := jumpTo a16 s

/-- `CALL NZ,a16` (C4), 44_stack_control.md R238; cost taken 24/6, not taken 12/3. -/
def execCall_NZ_a16 (a16 : Word) (s : State) : Result := callIf .NZ a16 s

/-- `PUSH BC` (C5), 44_stack_control.md R230; cost 16/4. -/
def execPush_BC (s : State) : Result := pushPair .BC s

/-- `RST 0x00` (C7), 44_stack_control.md R242; cost 16/4. -/
def execRst_00 (s : State) : Result := restart 0 s

/-- `RET Z` (C8), 44_stack_control.md R240; cost taken 20/5, not taken 8/2. -/
def execRet_Z (s : State) : Result := returnIf .Z s

/-- `RET` (C9), 44_stack_control.md R239; cost 16/4. -/
def execRet (s : State) : Result := returnPop s

/-- `JP Z,a16` (CA), 44_stack_control.md R234; cost taken 16/4, not taken 12/3. -/
def execJp_Z_a16 (a16 : Word) (s : State) : Result := jumpIf .Z a16 s

/-- `CALL Z,a16` (CC), 44_stack_control.md R238; cost taken 24/6, not taken 12/3. -/
def execCall_Z_a16 (a16 : Word) (s : State) : Result := callIf .Z a16 s

/-- `CALL a16` (CD), 44_stack_control.md R237; cost 24/6. -/
def execCall_a16 (a16 : Word) (s : State) : Result := callTo a16 s

/-- `RST 0x08` (CF), 44_stack_control.md R242; cost 16/4. -/
def execRst_08 (s : State) : Result := restart 1 s

/-- `RET NC` (D0), 44_stack_control.md R240; cost taken 20/5, not taken 8/2. -/
def execRet_NC (s : State) : Result := returnIf .NC s

/-- `POP DE` (D1), 44_stack_control.md R231; cost 12/3. -/
def execPop_DE (s : State) : Result := popPair .DE s

/-- `JP NC,a16` (D2), 44_stack_control.md R234; cost taken 16/4, not taken 12/3. -/
def execJp_NC_a16 (a16 : Word) (s : State) : Result := jumpIf .NC a16 s

/-- `CALL NC,a16` (D4), 44_stack_control.md R238; cost taken 24/6, not taken 12/3. -/
def execCall_NC_a16 (a16 : Word) (s : State) : Result := callIf .NC a16 s

/-- `PUSH DE` (D5), 44_stack_control.md R230; cost 16/4. -/
def execPush_DE (s : State) : Result := pushPair .DE s

/-- `RST 0x10` (D7), 44_stack_control.md R242; cost 16/4. -/
def execRst_10 (s : State) : Result := restart 2 s

/-- `RET C` (D8), 44_stack_control.md R240; cost taken 20/5, not taken 8/2. -/
def execRet_C (s : State) : Result := returnIf .C s

/-- `RETI` (D9), 44_stack_control.md R241; cost 16/4. -/
def execReti (s : State) : Result := returnEnable s

/-- `JP C,a16` (DA), 44_stack_control.md R234; cost taken 16/4, not taken 12/3. -/
def execJp_C_a16 (a16 : Word) (s : State) : Result := jumpIf .C a16 s

/-- `CALL C,a16` (DC), 44_stack_control.md R238; cost taken 24/6, not taken 12/3. -/
def execCall_C_a16 (a16 : Word) (s : State) : Result := callIf .C a16 s

/-- `RST 0x18` (DF), 44_stack_control.md R242; cost 16/4. -/
def execRst_18 (s : State) : Result := restart 3 s

/-- `POP HL` (E1), 44_stack_control.md R231; cost 12/3. -/
def execPop_HL (s : State) : Result := popPair .HL s

/-- `PUSH HL` (E5), 44_stack_control.md R230; cost 16/4. -/
def execPush_HL (s : State) : Result := pushPair .HL s

/-- `RST 0x20` (E7), 44_stack_control.md R242; cost 16/4. -/
def execRst_20 (s : State) : Result := restart 4 s

/-- `JP HL` (E9), 44_stack_control.md R233; cost 4/1. -/
def execJp_HL (s : State) : Result := jumpHL s

/-- `RST 0x28` (EF), 44_stack_control.md R242; cost 16/4. -/
def execRst_28 (s : State) : Result := restart 5 s

/-- `POP AF` (F1), 44_stack_control.md R231; cost 12/3. -/
def execPop_AF (s : State) : Result := popPair .AF s

/-- `PUSH AF` (F5), 44_stack_control.md R230; cost 16/4. -/
def execPush_AF (s : State) : Result := pushPair .AF s

/-- `RST 0x30` (F7), 44_stack_control.md R242; cost 16/4. -/
def execRst_30 (s : State) : Result := restart 6 s

/-- `RST 0x38` (FF), 44_stack_control.md R242; cost 16/4. -/
def execRst_38 (s : State) : Result := restart 7 s

end Sys2Proof.Machine
end

