-- ==== Sys2Proof/Machine/Extended.lean ====
section
/-! DEFINITION. The extended table as a function of its second byte (40_step_dispatch.md R113) and the 0xCB entry of the base
table (45_system_unused.md R265). -/
namespace Sys2Proof.Machine

/-- `ExtTable[op2]` (40_step_dispatch.md R113; 30_encoding.md R89, R92), at handler entry. -/
def extTable (op2 : Byte) (s : State) : Result :=
  match opX op2 with
  | 0 => rotOpnd (rotOpOf (opY op2)) (opnd8Of (opZ op2)) s
  | 1 => bitOpnd (octOf (opY op2)) (opnd8Of (opZ op2)) s
  | 2 => resOpnd (octOf (opY op2)) (opnd8Of (opZ op2)) s
  | _ => setOpnd (octOf (opY op2)) (opnd8Of (opZ op2)) s

/-- `the 0xCB entry` (CB), 45_system_unused.md R265; cost that of the extended instruction. -/
def execPrefixCB (op2 : Byte) (s : State) : Result := extTable op2 (s.operand8 op2)

end Sys2Proof.Machine
end

