-- ==== Sys2Proof/Machine/Loads.lean ====
section
/-! DEFINITION. The loads and stores of 41_loads.md (R130 to R151): the shared operation of each form, then one meaning per
instruction. No load changes a flag. -/
namespace Sys2Proof.Machine

/-- `LD r,r'` (41_loads.md R130). -/
def loadRegReg (d r : Reg8) (s : State) : Result := .next ((s.setR8 d (s.r8 r)).clk 4)

/-- `LD r,d8` (41_loads.md R131). -/
def loadRegImm (d : Reg8) (d8 : Byte) (s : State) : Result := .next (((s.operand8 d8).setR8 d d8).clk 8)

/-- `LD [HL],d8` (41_loads.md R132). -/
def storeImmAtHL (d8 : Byte) (s : State) : Result := .next (((s.operand8 d8).writeByte s.hl d8).clk 12)

/-- `LD rr,d16` (41_loads.md R133). -/
def loadPairImm (rr : Pair) (d16 : Word) (s : State) : Result := .next (((s.operand16 d16).setR16 rr d16).clk 12)

/-- `LD r,[HL]` (41_loads.md R134): the address is formed before `H` or `L` is written. -/
def loadRegAtHL (d : Reg8) (s : State) : Result :=
  let r := s.readByte s.hl
  .next ((r.2.setR8 d r.1).clk 8)

/-- `LD [HL],r` (41_loads.md R135). -/
def storeRegAtHL (r : Reg8) (s : State) : Result := .next ((s.writeByte s.hl (s.r8 r)).clk 8)

/-- The stores of `A` (41_loads.md R136, R137, R140, R142, R144, R147, R149): fetch the operand, write, then move `HL`. -/
def storeAcc (m : AccMode) (s : State) : Result :=
  .next ((((s.accFetch m).writeByte (s.accAddr m) s.a).accPost m).clk (accCost m))

/-- The loads of `A` (41_loads.md R138, R139, R141, R143, R145, R148, R150): fetch the operand, read, then move `HL`. -/
def loadAcc (m : AccMode) (s : State) : Result :=
  let r := (s.accFetch m).readByte (s.accAddr m)
  .next (((r.2.setA r.1).accPost m).clk (accCost m))

/-- `LD [a16],SP` (41_loads.md R146). -/
def storeSP (a16 : Word) (s : State) : Result := .next (((s.operand16 a16).writeWord a16 s.sp).clk 20)

/-- Opcode 0xF9 (41_loads.md R151): `LD HL,SP` under `doc`, the other direction under `hw` (log 8). -/
def transferF9 (dir : Config.F9Semantics) (s : State) : Result :=
  match dir with
  | .doc => .next ((s.setHL s.sp).clk 8)
  | .hw => .next ((s.setSP s.hl).clk 8)

/-- `LD BC,d16` (01), 41_loads.md R133; cost 12/3. -/
def execLd_BC_d16 (d16 : Word) (s : State) : Result := loadPairImm .BC d16 s

/-- `LD [BC],A` (02), 41_loads.md R136; cost 8/2. -/
def execLd_atBC_A (s : State) : Result := storeAcc .atBC s

/-- `LD B,d8` (06), 41_loads.md R131; cost 8/2. -/
def execLd_B_d8 (d8 : Byte) (s : State) : Result := loadRegImm .B d8 s

/-- `LD [a16],SP` (08), 41_loads.md R146; cost 20/5. -/
def execLd_atA16_SP (a16 : Word) (s : State) : Result := storeSP a16 s

/-- `LD A,[BC]` (0A), 41_loads.md R138; cost 8/2. -/
def execLd_A_atBC (s : State) : Result := loadAcc .atBC s

/-- `LD C,d8` (0E), 41_loads.md R131; cost 8/2. -/
def execLd_C_d8 (d8 : Byte) (s : State) : Result := loadRegImm .C d8 s

/-- `LD DE,d16` (11), 41_loads.md R133; cost 12/3. -/
def execLd_DE_d16 (d16 : Word) (s : State) : Result := loadPairImm .DE d16 s

/-- `LD [DE],A` (12), 41_loads.md R137; cost 8/2. -/
def execLd_atDE_A (s : State) : Result := storeAcc .atDE s

/-- `LD D,d8` (16), 41_loads.md R131; cost 8/2. -/
def execLd_D_d8 (d8 : Byte) (s : State) : Result := loadRegImm .D d8 s

/-- `LD A,[DE]` (1A), 41_loads.md R139; cost 8/2. -/
def execLd_A_atDE (s : State) : Result := loadAcc .atDE s

/-- `LD E,d8` (1E), 41_loads.md R131; cost 8/2. -/
def execLd_E_d8 (d8 : Byte) (s : State) : Result := loadRegImm .E d8 s

/-- `LD HL,d16` (21), 41_loads.md R133; cost 12/3. -/
def execLd_HL_d16 (d16 : Word) (s : State) : Result := loadPairImm .HL d16 s

/-- `LD [HL+],A` (22), 41_loads.md R140; cost 8/2. -/
def execLd_atHLinc_A (s : State) : Result := storeAcc .atHLinc s

/-- `LD H,d8` (26), 41_loads.md R131; cost 8/2. -/
def execLd_H_d8 (d8 : Byte) (s : State) : Result := loadRegImm .H d8 s

/-- `LD A,[HL+]` (2A), 41_loads.md R141; cost 8/2. -/
def execLd_A_atHLinc (s : State) : Result := loadAcc .atHLinc s

/-- `LD L,d8` (2E), 41_loads.md R131; cost 8/2. -/
def execLd_L_d8 (d8 : Byte) (s : State) : Result := loadRegImm .L d8 s

/-- `LD SP,d16` (31), 41_loads.md R133; cost 12/3. -/
def execLd_SP_d16 (d16 : Word) (s : State) : Result := loadPairImm .SP d16 s

/-- `LD [HL-],A` (32), 41_loads.md R142; cost 8/2. -/
def execLd_atHLdec_A (s : State) : Result := storeAcc .atHLdec s

/-- `LD [HL],d8` (36), 41_loads.md R132; cost 12/3. -/
def execLd_atHL_d8 (d8 : Byte) (s : State) : Result := storeImmAtHL d8 s

/-- `LD A,[HL-]` (3A), 41_loads.md R143; cost 8/2. -/
def execLd_A_atHLdec (s : State) : Result := loadAcc .atHLdec s

/-- `LD A,d8` (3E), 41_loads.md R131; cost 8/2. -/
def execLd_A_d8 (d8 : Byte) (s : State) : Result := loadRegImm .A d8 s

/-- `LD B,B` (40), 41_loads.md R130; cost 4/1. -/
def execLd_B_B (s : State) : Result := loadRegReg .B .B s

/-- `LD B,C` (41), 41_loads.md R130; cost 4/1. -/
def execLd_B_C (s : State) : Result := loadRegReg .B .C s

/-- `LD B,D` (42), 41_loads.md R130; cost 4/1. -/
def execLd_B_D (s : State) : Result := loadRegReg .B .D s

/-- `LD B,E` (43), 41_loads.md R130; cost 4/1. -/
def execLd_B_E (s : State) : Result := loadRegReg .B .E s

/-- `LD B,H` (44), 41_loads.md R130; cost 4/1. -/
def execLd_B_H (s : State) : Result := loadRegReg .B .H s

/-- `LD B,L` (45), 41_loads.md R130; cost 4/1. -/
def execLd_B_L (s : State) : Result := loadRegReg .B .L s

/-- `LD B,[HL]` (46), 41_loads.md R134; cost 8/2. -/
def execLd_B_atHL (s : State) : Result := loadRegAtHL .B s

/-- `LD B,A` (47), 41_loads.md R130; cost 4/1. -/
def execLd_B_A (s : State) : Result := loadRegReg .B .A s

/-- `LD C,B` (48), 41_loads.md R130; cost 4/1. -/
def execLd_C_B (s : State) : Result := loadRegReg .C .B s

/-- `LD C,C` (49), 41_loads.md R130; cost 4/1. -/
def execLd_C_C (s : State) : Result := loadRegReg .C .C s

/-- `LD C,D` (4A), 41_loads.md R130; cost 4/1. -/
def execLd_C_D (s : State) : Result := loadRegReg .C .D s

/-- `LD C,E` (4B), 41_loads.md R130; cost 4/1. -/
def execLd_C_E (s : State) : Result := loadRegReg .C .E s

/-- `LD C,H` (4C), 41_loads.md R130; cost 4/1. -/
def execLd_C_H (s : State) : Result := loadRegReg .C .H s

/-- `LD C,L` (4D), 41_loads.md R130; cost 4/1. -/
def execLd_C_L (s : State) : Result := loadRegReg .C .L s

/-- `LD C,[HL]` (4E), 41_loads.md R134; cost 8/2. -/
def execLd_C_atHL (s : State) : Result := loadRegAtHL .C s

/-- `LD C,A` (4F), 41_loads.md R130; cost 4/1. -/
def execLd_C_A (s : State) : Result := loadRegReg .C .A s

/-- `LD D,B` (50), 41_loads.md R130; cost 4/1. -/
def execLd_D_B (s : State) : Result := loadRegReg .D .B s

/-- `LD D,C` (51), 41_loads.md R130; cost 4/1. -/
def execLd_D_C (s : State) : Result := loadRegReg .D .C s

/-- `LD D,D` (52), 41_loads.md R130; cost 4/1. -/
def execLd_D_D (s : State) : Result := loadRegReg .D .D s

/-- `LD D,E` (53), 41_loads.md R130; cost 4/1. -/
def execLd_D_E (s : State) : Result := loadRegReg .D .E s

/-- `LD D,H` (54), 41_loads.md R130; cost 4/1. -/
def execLd_D_H (s : State) : Result := loadRegReg .D .H s

/-- `LD D,L` (55), 41_loads.md R130; cost 4/1. -/
def execLd_D_L (s : State) : Result := loadRegReg .D .L s

/-- `LD D,[HL]` (56), 41_loads.md R134; cost 8/2. -/
def execLd_D_atHL (s : State) : Result := loadRegAtHL .D s

/-- `LD D,A` (57), 41_loads.md R130; cost 4/1. -/
def execLd_D_A (s : State) : Result := loadRegReg .D .A s

/-- `LD E,B` (58), 41_loads.md R130; cost 4/1. -/
def execLd_E_B (s : State) : Result := loadRegReg .E .B s

/-- `LD E,C` (59), 41_loads.md R130; cost 4/1. -/
def execLd_E_C (s : State) : Result := loadRegReg .E .C s

/-- `LD E,D` (5A), 41_loads.md R130; cost 4/1. -/
def execLd_E_D (s : State) : Result := loadRegReg .E .D s

/-- `LD E,E` (5B), 41_loads.md R130; cost 4/1. -/
def execLd_E_E (s : State) : Result := loadRegReg .E .E s

/-- `LD E,H` (5C), 41_loads.md R130; cost 4/1. -/
def execLd_E_H (s : State) : Result := loadRegReg .E .H s

/-- `LD E,L` (5D), 41_loads.md R130; cost 4/1. -/
def execLd_E_L (s : State) : Result := loadRegReg .E .L s

/-- `LD E,[HL]` (5E), 41_loads.md R134; cost 8/2. -/
def execLd_E_atHL (s : State) : Result := loadRegAtHL .E s

/-- `LD E,A` (5F), 41_loads.md R130; cost 4/1. -/
def execLd_E_A (s : State) : Result := loadRegReg .E .A s

/-- `LD H,B` (60), 41_loads.md R130; cost 4/1. -/
def execLd_H_B (s : State) : Result := loadRegReg .H .B s

/-- `LD H,C` (61), 41_loads.md R130; cost 4/1. -/
def execLd_H_C (s : State) : Result := loadRegReg .H .C s

/-- `LD H,D` (62), 41_loads.md R130; cost 4/1. -/
def execLd_H_D (s : State) : Result := loadRegReg .H .D s

/-- `LD H,E` (63), 41_loads.md R130; cost 4/1. -/
def execLd_H_E (s : State) : Result := loadRegReg .H .E s

/-- `LD H,H` (64), 41_loads.md R130; cost 4/1. -/
def execLd_H_H (s : State) : Result := loadRegReg .H .H s

/-- `LD H,L` (65), 41_loads.md R130; cost 4/1. -/
def execLd_H_L (s : State) : Result := loadRegReg .H .L s

/-- `LD H,[HL]` (66), 41_loads.md R134; cost 8/2. -/
def execLd_H_atHL (s : State) : Result := loadRegAtHL .H s

/-- `LD H,A` (67), 41_loads.md R130; cost 4/1. -/
def execLd_H_A (s : State) : Result := loadRegReg .H .A s

/-- `LD L,B` (68), 41_loads.md R130; cost 4/1. -/
def execLd_L_B (s : State) : Result := loadRegReg .L .B s

/-- `LD L,C` (69), 41_loads.md R130; cost 4/1. -/
def execLd_L_C (s : State) : Result := loadRegReg .L .C s

/-- `LD L,D` (6A), 41_loads.md R130; cost 4/1. -/
def execLd_L_D (s : State) : Result := loadRegReg .L .D s

/-- `LD L,E` (6B), 41_loads.md R130; cost 4/1. -/
def execLd_L_E (s : State) : Result := loadRegReg .L .E s

/-- `LD L,H` (6C), 41_loads.md R130; cost 4/1. -/
def execLd_L_H (s : State) : Result := loadRegReg .L .H s

/-- `LD L,L` (6D), 41_loads.md R130; cost 4/1. -/
def execLd_L_L (s : State) : Result := loadRegReg .L .L s

/-- `LD L,[HL]` (6E), 41_loads.md R134; cost 8/2. -/
def execLd_L_atHL (s : State) : Result := loadRegAtHL .L s

/-- `LD L,A` (6F), 41_loads.md R130; cost 4/1. -/
def execLd_L_A (s : State) : Result := loadRegReg .L .A s

/-- `LD [HL],B` (70), 41_loads.md R135; cost 8/2. -/
def execLd_atHL_B (s : State) : Result := storeRegAtHL .B s

/-- `LD [HL],C` (71), 41_loads.md R135; cost 8/2. -/
def execLd_atHL_C (s : State) : Result := storeRegAtHL .C s

/-- `LD [HL],D` (72), 41_loads.md R135; cost 8/2. -/
def execLd_atHL_D (s : State) : Result := storeRegAtHL .D s

/-- `LD [HL],E` (73), 41_loads.md R135; cost 8/2. -/
def execLd_atHL_E (s : State) : Result := storeRegAtHL .E s

/-- `LD [HL],H` (74), 41_loads.md R135; cost 8/2. -/
def execLd_atHL_H (s : State) : Result := storeRegAtHL .H s

/-- `LD [HL],L` (75), 41_loads.md R135; cost 8/2. -/
def execLd_atHL_L (s : State) : Result := storeRegAtHL .L s

/-- `LD [HL],A` (77), 41_loads.md R135; cost 8/2. -/
def execLd_atHL_A (s : State) : Result := storeRegAtHL .A s

/-- `LD A,B` (78), 41_loads.md R130; cost 4/1. -/
def execLd_A_B (s : State) : Result := loadRegReg .A .B s

/-- `LD A,C` (79), 41_loads.md R130; cost 4/1. -/
def execLd_A_C (s : State) : Result := loadRegReg .A .C s

/-- `LD A,D` (7A), 41_loads.md R130; cost 4/1. -/
def execLd_A_D (s : State) : Result := loadRegReg .A .D s

/-- `LD A,E` (7B), 41_loads.md R130; cost 4/1. -/
def execLd_A_E (s : State) : Result := loadRegReg .A .E s

/-- `LD A,H` (7C), 41_loads.md R130; cost 4/1. -/
def execLd_A_H (s : State) : Result := loadRegReg .A .H s

/-- `LD A,L` (7D), 41_loads.md R130; cost 4/1. -/
def execLd_A_L (s : State) : Result := loadRegReg .A .L s

/-- `LD A,[HL]` (7E), 41_loads.md R134; cost 8/2. -/
def execLd_A_atHL (s : State) : Result := loadRegAtHL .A s

/-- `LD A,A` (7F), 41_loads.md R130; cost 4/1. -/
def execLd_A_A (s : State) : Result := loadRegReg .A .A s

/-- `LD [$FF00+a8],A` (E0), 41_loads.md R147; cost 12/3. -/
def execLd_highA8_A (a8 : Byte) (s : State) : Result := storeAcc (.highA8 a8) s

/-- `LD [$FF00+C],A` (E2), 41_loads.md R149; cost 8/2. -/
def execLd_highC_A (s : State) : Result := storeAcc .highC s

/-- `LD [a16],A` (EA), 41_loads.md R144; cost 16/4. -/
def execLd_atA16_A (a16 : Word) (s : State) : Result := storeAcc (.atA16 a16) s

/-- `LD A,[$FF00+a8]` (F0), 41_loads.md R148; cost 12/3. -/
def execLd_A_highA8 (a8 : Byte) (s : State) : Result := loadAcc (.highA8 a8) s

/-- `LD A,[$FF00+C]` (F2), 41_loads.md R150; cost 8/2. -/
def execLd_A_highC (s : State) : Result := loadAcc .highC s

/-- `LD HL,SP` (F9), 41_loads.md R151; cost 8/2. -/
def execLd_HL_SP (s : State) : Result := transferF9 Config.f9Semantics s

/-- `LD A,[a16]` (FA), 41_loads.md R145; cost 16/4. -/
def execLd_A_atA16 (a16 : Word) (s : State) : Result := loadAcc (.atA16 a16) s

end Sys2Proof.Machine
end

