-- ==== Sys2Proof/Machine/System.lean ====
section
/-! DEFINITION. EI, DI, NOP, HALT, STOP and the eleven unused opcodes (45_system_unused.md R260 to R264, R266): the shared
operation of each form, then one meaning per instruction. -/
namespace Sys2Proof.Machine

/-- `EI` and `DI` (45_system_unused.md R260, R261): at once (log 10). -/
def setInterruptEnable (b : Bool) (s : State) : Result := .next ((s.setIME b).clk 4)

/-- `NOP`, and `HALT` and `STOP` under HALT_STOP_POLICY = noop (45_system_unused.md R262 to R264; log 6). -/
def costOnly (s : State) : Result := .next (s.clk 4)

/-- An unused opcode (45_system_unused.md R266): a fixed-cost no-op (log 7), with the warning strobe of 60_exceptions.md R332
(log 5). -/
def unusedNoop (s : State) : Result := .next ({ s with unusedWarn := true }.clk Config.unusedT)

/-- `NOP` (00), 45_system_unused.md R262; cost 4/1. -/
def execNop (s : State) : Result := costOnly s

/-- `STOP` (10), 45_system_unused.md R264; cost 4/1. -/
def execStop (s : State) : Result := costOnly s

/-- `HALT` (76), 45_system_unused.md R263; cost 4/1. -/
def execHalt (s : State) : Result := costOnly s

/-- `unused opcode` (D3), 45_system_unused.md R266; cost 4/1. -/
def execUnused_D3 (s : State) : Result := unusedNoop s

/-- `unused opcode` (DB), 45_system_unused.md R266; cost 4/1. -/
def execUnused_DB (s : State) : Result := unusedNoop s

/-- `unused opcode` (DD), 45_system_unused.md R266; cost 4/1. -/
def execUnused_DD (s : State) : Result := unusedNoop s

/-- `unused opcode` (E3), 45_system_unused.md R266; cost 4/1. -/
def execUnused_E3 (s : State) : Result := unusedNoop s

/-- `unused opcode` (E4), 45_system_unused.md R266; cost 4/1. -/
def execUnused_E4 (s : State) : Result := unusedNoop s

/-- `unused opcode` (EB), 45_system_unused.md R266; cost 4/1. -/
def execUnused_EB (s : State) : Result := unusedNoop s

/-- `unused opcode` (EC), 45_system_unused.md R266; cost 4/1. -/
def execUnused_EC (s : State) : Result := unusedNoop s

/-- `unused opcode` (ED), 45_system_unused.md R266; cost 4/1. -/
def execUnused_ED (s : State) : Result := unusedNoop s

/-- `DI` (F3), 45_system_unused.md R261; cost 4/1. -/
def execDi (s : State) : Result := setInterruptEnable false s

/-- `unused opcode` (F4), 45_system_unused.md R266; cost 4/1. -/
def execUnused_F4 (s : State) : Result := unusedNoop s

/-- `EI` (FB), 45_system_unused.md R260; cost 4/1. -/
def execEi (s : State) : Result := setInterruptEnable true s

/-- `unused opcode` (FC), 45_system_unused.md R266; cost 4/1. -/
def execUnused_FC (s : State) : Result := unusedNoop s

/-- `unused opcode` (FD), 45_system_unused.md R266; cost 4/1. -/
def execUnused_FD (s : State) : Result := unusedNoop s

end Sys2Proof.Machine
end

