-- ==== Sys2Proof/Machine/Fetch.lean ====
section
/-! DEFINITION. The fetch of a step (40_step_dispatch.md R110, R111): which instruction the bytes at `PC` are, the state its
handler starts from, and how a word is placed where the next step fetches (log 20). -/
namespace Sys2Proof.Machine

/-- The three bytes the bus answers if the core reads from `PC` on, wrapping at 0xFFFF; which of these reads a step issues is
another matter (20_memory.md R58; log 24). -/
def State.bytesAtPC (s : State) : Byte × Byte × Byte :=
  let r0 := s.fetch8
  let r1 := r0.2.fetch8
  (r0.1, r1.1, r1.2.fetch8.1)

/-- The instruction at `PC` (40_step_dispatch.md R112, R113). -/
def State.fetchInstr (s : State) : Instr :=
  let b := s.bytesAtPC
  decode3 b.1 b.2.1 b.2.2

/-- The beginning of a step: no access issued yet, the strobe down (logs 4 and 5). -/
def State.beginStep (s : State) : State := { s with accesses := [], unusedWarn := false }

/-- Handler entry (40_step_dispatch.md R110, R118): the opcode byte has been fetched, and after `PREFIX_BYTE` the second
byte too. -/
def State.handlerEntry (s : State) : State :=
  let s1 := s.beginStep.fetch8.2
  if s.answer s.pc = Config.prefixByte then s1.fetch8.2 else s1

/-- Placing one byte in memory from outside the machine, past the bus's write policy (10_state.md R33; log 19). -/
def State.place (s : State) (a : Word) (v : Byte) : State := { s with mem := Memory.write s.mem a.toNat v }

/-- Making an address plain memory on the bus. -/
def State.mapRam (s : State) (a : Word) : State :=
  if s.bus.isRam a then s else { s with bus := { s.bus with ram := ⟨a.toNat, a.toNat⟩ :: s.bus.ram } }

/-- Placing a byte where a fetch will read it: the address is made plain memory if it is not. -/
def State.placeCode (s : State) (a : Word) (v : Byte) : State := (s.mapRam a).place a v

/-- Placing three bytes from `PC` on. -/
def State.placeAtPC (s : State) (b0 b1 b2 : Byte) : State :=
  ((s.placeCode s.pc b0).placeCode (s.pc + 1#16) b1).placeCode (s.pc + 2#16) b2

end Sys2Proof.Machine
end

