-- ==== Sys2Proof/Machine/Step.lean ====
section
/-! DEFINITION. One step of the machine (40_step_dispatch.md R110): fetch, dispatch, execute. -/
namespace Sys2Proof.Machine

/-- `Step` (40_step_dispatch.md R110): the handler of the instruction at `PC`, at handler entry. -/
def step (s : State) : Host.Outcome State Fault Refusal := exec s.fetchInstr s.handlerEntry

/-- The state with an instruction, numbered as spec/opcode_table.json numbers it, where `step` fetches next (log 20). -/
def State.withFetchWord (s : State) (nbits w : Nat) : State :=
  let b := tableBytes nbits w
  s.placeAtPC b.1 b.2.1 b.2.2

end Sys2Proof.Machine
end

