-- ==== Sys2Proof/Machine/Outside.lean ====
section
/-! DEFINITION. What the outside may do to the state between two steps (10_state.md R33, R35): read any field, write any field
as long as the invariants of R31 hold, change memory, or reset. `step` performs none of these (log 19); the spec describes
no interrupt entry (60_exceptions.md R324), so none is here. -/
namespace Sys2Proof.Machine

/-- One write by the driver, a test bench or the interrupt controller between steps. -/
inductive Outside.Move where
  /-- Writing an 8-bit register. -/
  | reg (r : Reg8) (v : Byte)
  /-- Writing `F`: "an outside write of `F` must keep the low nibble zero" (R33). -/
  | flags (v : Byte)
  /-- Writing one flag through its setter (R33). -/
  | flag (fl : Flag) (v : Bool)
  /-- Writing a 16-bit register or pair view (R33). -/
  | pair (rr : Pair) (w : Word)
  | programCounter (w : Word)
  | interruptEnable (b : Bool)
  /-- Writing the counters, which R31 ties together. -/
  | clock (m : Nat)
  /-- Another subsystem changes a byte behind the bus (20_memory.md R62). -/
  | memory (a : Word) (v : Byte)
  /-- What is behind the bus changes: its policy, and what it will answer (20_memory.md R56, R57, R62). -/
  | bus (b : Bus)
  /-- Reset (R34, R35; 70_reset_and_hazards.md R351). -/
  | reset (r : Config.ResetRecord)
  deriving DecidableEq, Repr

/-- The state after an outside write. -/
def Outside.apply (m : Outside.Move) (s : State) : State :=
  match m with
  | .reg r v => s.setR8 r v
  | .flags v => s.setF (v &&& 0xF0#8)
  | .flag fl v => s.setFlag fl v
  | .pair rr w => s.setR16 rr w
  | .programCounter w => s.setPC w
  | .interruptEnable b => s.setIME b
  | .clock m => s.clk (4 * m)
  | .memory a v => s.place a v
  | .bus b => { s with bus := b }
  | .reset r => s.resetFrom r

end Sys2Proof.Machine
end

