-- ==== Sys2Proof/Safety.lean ====
section
/-! DEFINITION. The terms claims are stated in: the invariant of the state (10_state.md R31), what an instruction may change
(40_step_dispatch.md R115; 10_state.md R25), what it costs (70_reset_and_hazards.md R359), frames between two states, and
runs (40_step_dispatch.md R123). None of these is used by the machine. -/
namespace Sys2Proof.Machine

/-- The invariants of 10_state.md R31 (a) and (b); (c), the widths, holds by the types; and memory in canonical form. -/
abbrev State.Inv (s : State) : Prop :=
  s.f &&& 0x0F#8 = 0#8 ∧ s.lastClockM = s.lastClockT / 4 ∧ s.lastClockT % 4 = 0 ∧ Memory.wf s.mem = true

/-- The widths of 10_state.md R31 (c), on numbers. -/
def State.WidthsHold (s : State) : Prop :=
  (∀ r, (s.r8 r).toNat ≤ 255) ∧ s.f.toNat ≤ 255 ∧ s.pc.toNat ≤ 65535 ∧ s.sp.toNat ≤ 65535

/-- The register file of 10_state.md R20 is the same in both states. -/
def SameRegisterFile (s t : State) : Prop :=
  (∀ r, t.r8 r = s.r8 r) ∧ t.f = s.f ∧ t.pc = s.pc ∧ t.sp = s.sp ∧ t.ime = s.ime ∧
    t.lastClockT = s.lastClockT ∧ t.lastClockM = s.lastClockM

/-! Frames: what stays the same from `s` to `t`. -/

/-- Every 8-bit register but those named is unchanged. -/
def KeepsRegs (regs : List Reg8) (s t : State) : Prop := ∀ r, r ∉ regs → t.r8 r = s.r8 r

/-- Every flag but those named is unchanged, and so are the other bits of `F`. -/
def KeepsFlags (flags : List Flag) (s t : State) : Prop :=
  (∀ fl, fl ∉ flags → t.flag fl = s.flag fl) ∧ t.f &&& 0x0F#8 = s.f &&& 0x0F#8

/-- Every byte of memory outside the named addresses reads as before. -/
def KeepsMemory (stores : List Word) (s t : State) : Prop := ∀ a : Word, a ∉ stores → t.peek a = s.peek a

/-- `SP` and the interrupt enable are unchanged. -/
def KeepsSystem (s t : State) : Prop := t.sp = s.sp ∧ t.ime = s.ime

/-- Which addresses are plain memory, which of them ignore writes, and the warning strobe are unchanged. -/
def KeepsBus (s t : State) : Prop := t.bus.map = s.bus.map ∧ t.unusedWarn = s.unusedWarn

/-- What a store of `v` at `a` leaves there: `v` where the bus accepts the write, else what was there (20_memory.md R56). -/
def Stored (s t : State) (a : Word) (v : Byte) : Prop := t.peek a = if s.accepts a then v else s.peek a

/-- What a store of the word `w` at `a` leaves: the low byte at `a`, the high byte at `a + 1` (20_memory.md R53). -/
def StoredWord (s t : State) (a w : Word) : Prop := Stored s t a (lo8 w) ∧ Stored s t (a + 1#16) (hi8 w)

/-- The cost an instruction reports (40_step_dispatch.md R114). -/
def Reports (t : State) (cost : Nat) : Prop := t.lastClockT = cost ∧ t.lastClockM = cost / 4

/-- The bus accesses issued between `s` and `t`, oldest first (20_memory.md R58): they are recorded, and the bus has seen
exactly these. -/
def Issues (s t : State) (xs : List Access) : Prop := t.accesses = s.accesses ++ xs ∧ t.bus = s.bus.afterAll xs

/-- What the bus answers to a read once some accesses have been issued (20_memory.md R57). -/
def State.answerAfter (s : State) (xs : List Access) (a : Word) : Byte := (s.bus.afterAll xs).answer s.mem a

/-- The two reads of the word at an address, each with the byte the bus answers at that moment (20_memory.md R53). -/
def State.wordReadsAt (s : State) (a : Word) : List Access :=
  [.read a (s.answer a), .read (a + 1#16) (s.answerAfter [.read a (s.answer a)] (a + 1#16))]

/-- The word the bus answers at an address, as a number: the byte at the next address times 256 plus the byte there. -/
def State.wordAt (s : State) (a : Word) : Nat :=
  (s.answerAfter [.read a (s.answer a)] (a + 1#16)).toNat * 256 + (s.answer a).toNat

/-- Everything but `PC`, the counters and the record of accesses is unchanged, except the named registers, flags and
addresses; the interrupt enable and `SP` are stated apart, by `KeepsSystem` or by what they become
(40_step_dispatch.md R115). -/
def Frame (regs : List Reg8) (flags : List Flag) (stores : List Word) (s t : State) : Prop :=
  KeepsRegs regs s t ∧ KeepsFlags flags s t ∧ KeepsMemory stores s t ∧ KeepsBus s t

/-- Where `PC` ends, what is reported, and which accesses are issued. -/
def Ends (s t : State) (pc : Word) (cost : Nat) (xs : List Access) : Prop :=
  t.pc = pc ∧ Reports t cost ∧ Issues s t xs

/-- What a write of `v` to an `r` operand leaves (30_encoding.md R83). -/
def Written (s t : State) (o : Opnd8) (v : Byte) : Prop :=
  match o with
  | .reg r => t.r8 r = v
  | .atHL => Stored s t s.hl v

/-- The value of an `r` operand (30_encoding.md R83). -/
def State.opnd (s : State) (o : Opnd8) : Byte :=
  match o with
  | .reg r => s.r8 r
  | .atHL => s.answer s.hl

/-- A cost that depends on whether the `r` operand is a register or `[HL]`. -/
def opndCost (reg atHL : Nat) : Opnd8 → Nat
  | .reg _ => reg
  | .atHL => atHL

/-- The read an `r` operand takes. -/
def State.opndReads (s : State) (o : Opnd8) : List Access :=
  match o with
  | .reg _ => []
  | .atHL => [.read s.hl (s.answer s.hl)]

/-- The write an `r` operand takes. -/
def State.opndWrites (s : State) (o : Opnd8) (v : Byte) : List Access :=
  match o with
  | .reg _ => []
  | .atHL => [.write s.hl v]

/-- The operand bytes of an addressing mode, at handler entry. -/
def State.accReads (s : State) (m : AccMode) : List Access :=
  match m with
  | .atA16 a16 => [.read s.pc (lo8 a16), .read (s.pc + 1#16) (hi8 a16)]
  | .highA8 a8 => [.read s.pc a8]
  | .atBC | .atDE | .atHLinc | .atHLdec | .highC => []

/-- `PC` after the operand bytes of an addressing mode. -/
def State.accNext (s : State) (m : AccMode) : Word :=
  match m with
  | .atA16 _ => s.pc + 2#16
  | .highA8 _ => s.pc + 1#16
  | .atBC | .atDE | .atHLinc | .atHLdec | .highC => s.pc

/-- `HL` after an accumulator load or store (41_loads.md, the effective-address summary). -/
def State.accHL (s : State) (m : AccMode) : Word :=
  match m with
  | .atHLinc => s.hl + 1#16
  | .atHLdec => s.hl - 1#16
  | .atBC | .atDE | .atA16 _ | .highA8 _ | .highC => s.hl

/-- How many reads a list of accesses holds. -/
def readCount (xs : List Access) : Nat := xs.countP (fun x => !x.isWrite)

/-- How many writes a list of accesses holds. -/
def writeCount (xs : List Access) : Nat := xs.countP Access.isWrite

/-- Reads issued one after the other on a bus, each with the byte the bus answers at that moment. -/
def Bus.readsOf (b : Bus) (mem : Memory) : List Word → List Access
  | [] => []
  | a :: as => .read a (b.answer mem a) :: (b.after (.read a (b.answer mem a))).readsOf mem as

/-- The reads of some addresses, one after the other, from a state. -/
def State.readsOf (s : State) (as : List Word) : List Access := s.bus.readsOf s.mem as

/-- The `n` addresses from `PC` on, wrapping. -/
def State.streamAddrs (s : State) (n : Nat) : List Word := (List.range n).map fun k => s.pc + BitVec.ofNat 16 k

/-- The reads of the `n` bytes from `PC` on. -/
def State.streamReads (s : State) (n : Nat) : List Access := s.readsOf (s.streamAddrs n)

/-- The byte the bus answers to the read of the `n`-th byte from `PC` on, those before it having been read. -/
def State.streamByte (s : State) (n : Nat) : Byte :=
  s.answerAfter (s.streamReads n) (s.pc + BitVec.ofNat 16 n)

/-- The four flags after an instruction. -/
def FlagsAre (t : State) (z n h c : Bool) : Prop :=
  t.flag .Z = z ∧ t.flag .N = n ∧ t.flag .H = h ∧ t.flag .C = c

/-- The two reads of a little-endian operand word at `a` (20_memory.md R53). -/
def wordReads (a w : Word) : List Access := [.read a (lo8 w), .read (a + 1#16) (hi8 w)]

/-- The two writes of a word at `a`, low byte first (20_memory.md R53). -/
def wordWrites (a w : Word) : List Access := [.write a (lo8 w), .write (a + 1#16) (hi8 w)]

/-- The addresses of the word a push writes: `SP - 2` and the one after it (40_step_dispatch.md R121). -/
def State.pushAddrs (s : State) : List Word := [s.sp - 2#16, s.sp - 2#16 + 1#16]

end Sys2Proof.Machine

namespace Sys2Proof

/-! What an instruction may change, by its form. -/

/-- The form whose handler runs: the extended one behind the 0xCB entry (45_system_unused.md R265). -/
def Form.handler : Form → Form
  | .prefixCB op2 => extForm op2
  | f => f

/-- The flags each form writes, computed or forced (10_state.md R25). -/
def Form.flagsWritten : Form → List Machine.Flag
  | .inc8 _ | .dec8 _ | .bit _ _ => [.Z, .N, .H]
  | .alu _ _ | .aluI _ _ | .rlca | .rla | .rrca | .rra | .rot _ _ | .ldHLSPr8 _ | .addSPr8 _ => [.Z, .N, .H, .C]
  | .pop .AF => [.Z, .N, .H, .C]
  | .pop .BC | .pop .DE | .pop .HL => []
  | .daa => [.Z, .H, .C]
  | .cpl => [.N, .H]
  | .scf | .ccf | .addHL _ => [.N, .H, .C]
  | .ldRR _ _ | .ldRI _ _ | .ldMI _ | .ldPI _ _ | .ldRM _ | .ldMR _ | .stAcc _ | .ldAcc _ | .stSP _ | .ldHLSP => []
  | .inc16 _ | .dec16 _ | .push _ | .jp _ | .jpHL | .jpC _ _ | .jr _ | .jrC _ _ | .call _ | .callC _ _ | .ret => []
  | .retC _ | .reti | .rst _ | .ei | .di | .nop | .halt | .stop | .unused _ | .prefixCB _ | .res _ _ | .set _ _ => []

/-- The 8-bit registers under a pair; `SP` is none. -/
def Pair.regs : Pair → List Reg8
  | .BC => [.B, .C]
  | .DE => [.D, .E]
  | .HL => [.H, .L]
  | .SP => []

/-- The 8-bit registers under a stack pair; `F` is followed by `Form.flagsWritten`. -/
def StackPair.regs : StackPair → List Reg8
  | .BC => [.B, .C]
  | .DE => [.D, .E]
  | .HL => [.H, .L]
  | .AF => [.A]

/-- The base registers an addressing mode moves (41_loads.md, the effective-address summary). -/
def AccMode.regs : AccMode → List Reg8
  | .atHLinc | .atHLdec => [.H, .L]
  | .atBC | .atDE | .atA16 _ | .highA8 _ | .highC => []

/-- The register an `r` operand names; `[HL]` names none. -/
def Opnd8.regs : Opnd8 → List Reg8
  | .reg r => [r]
  | .atHL => []

/-- The 8-bit registers each form writes. -/
def Form.regsWritten : Form → List Reg8
  | .ldRR d _ | .ldRI d _ | .ldRM d => [d]
  | .ldPI rr _ | .inc16 rr | .dec16 rr => rr.regs
  | .stAcc m => m.regs
  | .ldAcc m => .A :: m.regs
  | .ldHLSP | .ldHLSPr8 _ | .addHL _ => [.H, .L]
  | .inc8 o | .dec8 o | .rot _ o | .res _ o | .set _ o => o.regs
  | .alu .cp _ | .aluI .cp _ => []
  | .alu .add _ | .alu .adc _ | .alu .sub _ | .alu .sbc _ | .alu .and _ | .alu .xor _ | .alu .or _ => [.A]
  | .aluI .add _ | .aluI .adc _ | .aluI .sub _ | .aluI .sbc _ | .aluI .and _ | .aluI .xor _ | .aluI .or _ => [.A]
  | .daa | .cpl | .rlca | .rla | .rrca | .rra => [.A]
  | .pop rr => rr.regs
  | .ldMI _ | .ldMR _ | .stSP _ | .addSPr8 _ | .scf | .ccf | .push _ | .jp _ | .jpHL | .jpC _ _ | .jr _ | .jrC _ _ => []
  | .call _ | .callC _ _ | .ret | .retC _ | .reti | .rst _ | .ei | .di | .nop | .halt | .stop | .unused _ => []
  | .prefixCB _ | .bit _ _ => []

/-- The forms that write `SP` (10_state.md R27). -/
def Form.writesSP : Form → Bool
  | .ldPI .SP _ | .inc16 .SP | .dec16 .SP | .addSPr8 _ | .push _ | .pop _ | .call _ | .callC _ _ | .ret | .retC _ => true
  | .reti | .rst _ => true
  | .ldPI .BC _ | .ldPI .DE _ | .ldPI .HL _ | .inc16 .BC | .inc16 .DE | .inc16 .HL | .dec16 .BC | .dec16 .DE => false
  | .dec16 .HL | .ldRR _ _ | .ldRI _ _ | .ldMI _ | .ldRM _ | .ldMR _ | .stAcc _ | .ldAcc _ | .stSP _ | .ldHLSP => false
  | .ldHLSPr8 _ | .inc8 _ | .dec8 _ | .alu _ _ | .aluI _ _ | .daa | .cpl | .scf | .ccf | .rlca | .rla | .rrca => false
  | .rra | .addHL _ | .jp _ | .jpHL | .jpC _ _ | .jr _ | .jrC _ _ | .ei | .di | .nop | .halt | .stop | .unused _ => false
  | .prefixCB _ | .rot _ _ | .bit _ _ | .res _ _ | .set _ _ => false

/-- The addresses an `r` operand's write goes to: `HL` for `[HL]` (30_encoding.md R83). -/
def Opnd8.storesAt (o : Opnd8) (s : Machine.State) : List Word :=
  match o with
  | .reg _ => []
  | .atHL => [s.hl]

/-- The addresses a form stores to from a state at handler entry, by the address its meaning uses. -/
def Form.storesAt (f : Form) (s : Machine.State) : List Word :=
  match f with
  | .ldMI _ | .ldMR _ => [s.hl]
  | .stAcc m => [s.accAddr m]
  | .stSP a16 => [a16, a16 + 1#16]
  | .inc8 o | .dec8 o | .rot _ o | .res _ o | .set _ o => o.storesAt s
  | .push _ | .call _ | .rst _ => s.pushAddrs
  | .callC cc _ => if s.cond cc then s.pushAddrs else []
  | .ldRR _ _ | .ldRI _ _ | .ldPI _ _ | .ldRM _ | .ldAcc _ | .ldHLSP | .ldHLSPr8 _ | .addSPr8 _ | .alu _ _ => []
  | .aluI _ _ | .daa | .cpl | .scf | .ccf | .rlca | .rla | .rrca | .rra | .inc16 _ | .dec16 _ | .addHL _ | .pop _ => []
  | .jp _ | .jpHL | .jpC _ _ | .jr _ | .jrC _ _ | .ret | .retC _ | .reti | .ei | .di | .nop | .halt | .stop => []
  | .unused _ | .prefixCB _ | .bit _ _ => []

/-- How many reads, and how many writes at most, an `r` operand takes: one for `[HL]` (30_encoding.md R83). -/
def Opnd8.memCount : Opnd8 → Nat
  | .reg _ => 0
  | .atHL => 1

/-- The address an `r` operand is read from: `HL` for `[HL]`. -/
def Opnd8.readsAt (o : Opnd8) (s : Machine.State) : List Word :=
  match o with
  | .reg _ => []
  | .atHL => [s.hl]

/-- The addresses a form reads data from, in order, its own bytes apart (20_memory.md R58). -/
def Form.dataReads (f : Form) (s : Machine.State) : List Word :=
  match f with
  | .ldRM _ => [s.hl]
  | .ldAcc m => [s.accAddr m]
  | .inc8 o | .dec8 o | .alu _ o | .rot _ o | .bit _ o | .res _ o | .set _ o => o.readsAt s
  | .pop _ | .ret | .reti => [s.sp, s.sp + 1#16]
  | .retC cc => if s.cond cc then [s.sp, s.sp + 1#16] else []
  | .ldRR _ _ | .ldRI _ _ | .ldMI _ | .ldPI _ _ | .ldMR _ | .stAcc _ | .stSP _ | .ldHLSP | .ldHLSPr8 _ | .addSPr8 _ => []
  | .aluI _ _ | .daa | .cpl | .scf | .ccf | .rlca | .rla | .rrca | .rra | .inc16 _ | .dec16 _ | .addHL _ | .push _ => []
  | .jp _ | .jpHL | .jpC _ _ | .jr _ | .jrC _ _ | .call _ | .callC _ _ | .rst _ | .ei | .di | .nop | .halt | .stop => []
  | .unused _ | .prefixCB _ => []

/-- The forms that may set `PC` themselves (44_stack_control.md R232 to R242). -/
def Form.branches : Form → Bool
  | .jp _ | .jpHL | .jpC _ _ | .jr _ | .jrC _ _ | .call _ | .callC _ _ | .ret | .retC _ | .reti | .rst _ => true
  | .ldRR _ _ | .ldRI _ _ | .ldMI _ | .ldPI _ _ | .ldRM _ | .ldMR _ | .stAcc _ | .ldAcc _ | .stSP _ | .ldHLSP => false
  | .ldHLSPr8 _ | .addSPr8 _ | .inc8 _ | .dec8 _ | .alu _ _ | .aluI _ _ | .daa | .cpl | .scf | .ccf | .rlca | .rla => false
  | .rrca | .rra | .inc16 _ | .dec16 _ | .addHL _ | .push _ | .pop _ | .ei | .di | .nop | .halt | .stop | .unused _ => false
  | .prefixCB _ | .rot _ _ | .bit _ _ | .res _ _ | .set _ _ => false

/-- A conditional whose condition fails (44_stack_control.md R234, R236, R238, R240). -/
def Form.notTaken (f : Form) (s : Machine.State) : Bool :=
  match f with
  | .jpC cc _ | .jrC cc _ | .callC cc _ | .retC cc => !s.cond cc
  | .ldRR _ _ | .ldRI _ _ | .ldMI _ | .ldPI _ _ | .ldRM _ | .ldMR _ | .stAcc _ | .ldAcc _ | .stSP _ | .ldHLSP => false
  | .ldHLSPr8 _ | .addSPr8 _ | .inc8 _ | .dec8 _ | .alu _ _ | .aluI _ _ | .daa | .cpl | .scf | .ccf | .rlca | .rla => false
  | .rrca | .rra | .inc16 _ | .dec16 _ | .addHL _ | .push _ | .pop _ | .ei | .di | .nop | .halt | .stop | .unused _ => false
  | .prefixCB _ | .rot _ _ | .bit _ _ | .res _ _ | .set _ _ | .jp _ | .jpHL | .jr _ | .call _ | .ret | .reti => false
  | .rst _ => false

/-- How many of its own bytes a form reads: all, or the opcode alone for a conditional that is not taken, which skips its
operand (20_memory.md R58). -/
def Form.streamLength (f : Form) (s : Machine.State) : Nat := if f.notTaken s then 1 else f.encode.length

/-- The cost table of 70_reset_and_hazards.md R359, as numbers; a conditional's cost depends on the flags at handler entry. -/
def Form.cost (f : Form) (s : Machine.State) : Nat :=
  match f with
  | .ldRR _ _ | .alu _ (.reg _) | .inc8 (.reg _) | .dec8 (.reg _) | .daa | .cpl | .scf | .ccf | .rlca | .rla | .rrca => 4
  | .rra | .jpHL | .ei | .di | .nop | .halt | .stop | .unused _ => 4
  | .ldRI _ _ | .ldRM _ | .ldMR _ | .stAcc .atBC | .stAcc .atDE | .stAcc .atHLinc | .stAcc .atHLdec | .stAcc .highC => 8
  | .ldAcc .atBC | .ldAcc .atDE | .ldAcc .atHLinc | .ldAcc .atHLdec | .ldAcc .highC | .ldHLSP | .inc16 _ | .dec16 _ => 8
  | .addHL _ | .alu _ .atHL | .aluI _ _ | .rot _ (.reg _) | .bit _ (.reg _) | .res _ (.reg _) | .set _ (.reg _) => 8
  | .ldMI _ | .ldPI _ _ | .stAcc (.highA8 _) | .ldAcc (.highA8 _) | .ldHLSPr8 _ | .inc8 .atHL | .dec8 .atHL => 12
  | .pop _ | .jr _ => 12
  | .stAcc (.atA16 _) | .ldAcc (.atA16 _) | .addSPr8 _ | .push _ | .jp _ | .ret | .reti | .rst _ => 16
  | .rot _ .atHL | .bit _ .atHL | .res _ .atHL | .set _ .atHL => 16
  | .stSP _ => 20
  | .call _ => 24
  | .jpC cc _ => if s.cond cc then 16 else 12
  | .jrC cc _ => if s.cond cc then 12 else 8
  | .callC cc _ => if s.cond cc then 24 else 12
  | .retC cc => if s.cond cc then 20 else 8
  | .prefixCB _ => 8

end Sys2Proof

namespace Sys2Proof.Machine

/-! The arithmetic of the accumulator operations, on numbers. -/

/-- What an accumulator operation with accumulator `a`, operand `v` and incoming carry `cin` leaves: the result and the four
flags, as 42_alu8.md R171, R172, R177 to R200 give them on unbounded numbers. -/
def AluClaim (op : AluOp) (a v : Byte) (cin : Bool) (res : Byte) (z n h c : Bool) : Prop :=
  match op with
  | .add =>
    res.toNat = (a.toNat + v.toNat) % 256 ∧ z = decide (res.toNat = 0) ∧ n = false ∧
      h = decide (a.toNat % 16 + v.toNat % 16 > 15) ∧ c = decide (a.toNat + v.toNat > 255)
  | .adc =>
    res.toNat = (a.toNat + v.toNat + cin.toNat) % 256 ∧ z = decide (res.toNat = 0) ∧ n = false ∧
      h = decide (a.toNat % 16 + v.toNat % 16 + cin.toNat > 15) ∧ c = decide (a.toNat + v.toNat + cin.toNat > 255)
  | .sub =>
    res.toNat = (a.toNat + 256 - v.toNat) % 256 ∧ z = decide (res.toNat = 0) ∧ n = true ∧
      h = decide (a.toNat % 16 < v.toNat % 16) ∧ c = decide (a.toNat < v.toNat)
  | .sbc =>
    res.toNat = (a.toNat + 256 - (v.toNat + cin.toNat)) % 256 ∧ z = decide (res.toNat = 0) ∧ n = true ∧
      h = decide (a.toNat % 16 < v.toNat % 16 + cin.toNat) ∧ c = decide (a.toNat < v.toNat + cin.toNat)
  | .and => res = a &&& v ∧ z = decide (res.toNat = 0) ∧ n = false ∧ h = true ∧ c = false
  | .xor => res = a ^^^ v ∧ z = decide (res.toNat = 0) ∧ n = false ∧ h = false ∧ c = false
  | .or => res = a ||| v ∧ z = decide (res.toNat = 0) ∧ n = false ∧ h = false ∧ c = false
  | .cp =>
    res = a ∧ z = decide (a = v) ∧ n = true ∧
      h = decide (a.toNat % 16 < v.toNat % 16) ∧ c = decide (a.toNat < v.toNat)

/-- What a rotate or shift of `v` with incoming carry `cin` leaves: the result and the outgoing bit, on numbers
(46_extended_cb.md R282 to R289). -/
def RotClaim (op : RotOp) (v : Byte) (cin : Bool) (res : Byte) (out : Bool) : Prop :=
  match op with
  | .rlc => res.toNat = v.toNat * 2 % 256 + v.toNat / 128 ∧ out = decide (v.toNat / 128 = 1)
  | .rrc => res.toNat = v.toNat / 2 + 128 * (v.toNat % 2) ∧ out = decide (v.toNat % 2 = 1)
  | .rl => res.toNat = v.toNat * 2 % 256 + cin.toNat ∧ out = decide (v.toNat / 128 = 1)
  | .rr => res.toNat = v.toNat / 2 + 128 * cin.toNat ∧ out = decide (v.toNat % 2 = 1)
  | .sla => res.toNat = v.toNat * 2 % 256 ∧ out = decide (v.toNat / 128 = 1)
  | .sra => res.toNat = v.toNat / 2 + 128 * (v.toNat / 128) ∧ out = decide (v.toNat % 2 = 1)
  | .swap => res.toNat = v.toNat % 16 * 16 + v.toNat / 16 ∧ out = false
  | .srl => res.toNat = v.toNat / 2 ∧ out = decide (v.toNat % 2 = 1)

/-- A number below 100 as two packed decimal digits (00_scope.md R12, BCD adjustment). -/
def packedDecimal (n : Nat) : Byte := BitVec.ofNat 8 (n / 10 * 16 + n % 10)

/-! Runs (40_step_dispatch.md R123). -/

/-- A run of `n` steps, convention (a) of R123. -/
def runSteps (n : Nat) (s : State) : Result := core.run n s

/-- A run up to the first step boundary at which `PC` is the stop address, within `n` steps: convention (b) of R123. -/
def runTo (stop : Word) : Nat → State → Option State
  | 0, s => if s.pc = stop then some s else none
  | n + 1, s =>
    if s.pc = stop then some s
    else
      match step s with
      | .next t => runTo stop n t
      | .fault _ => none
      | .refused _ => none

/-- A safe run: however many steps the driver asks for, there is a next state (60_exceptions.md R334). -/
def State.RunsOn (s : State) : Prop := ∀ n, ∃ t, runSteps n s = .next t

end Sys2Proof.Machine
end

