-- ==== Sys2Proof/Certificates/Slice0/Obligations.lean ====
section
/-! DEFINITION. The statements for the provers, in the terms of Sys2Proof/Safety.lean: the invariant and runs, decoding and the
step, whole-machine rules, the shared operations, then each family of the opcode table. Every result statement also says
that `exec` answers a next state, and its frame. -/
open Sys2Proof Sys2Proof.Machine

/-- The state right after reset, with the model's own RESET_STATE (log 1), satisfies the invariant (10_state.md R34;
70_reset_and_hazards.md R351). -/
def Obligations.ResetStateIsLegal : Prop :=
  State.reset.Inv

/-- Reset writes every register from RESET_STATE, whatever the registers held, touches neither memory nor bus, and
issues no access (70_reset_and_hazards.md R350; 70_reset_and_hazards.md R351; 10_state.md R34). -/
def Obligations.ResetIsFixed : Prop :=
  ∀ (r : Config.ResetRecord) (s : State),
    ((s.resetFrom r).r8 .A = r.a ∧ (s.resetFrom r).r8 .B = r.b ∧ (s.resetFrom r).r8 .C = r.c ∧
      (s.resetFrom r).r8 .D = r.d ∧ (s.resetFrom r).r8 .E = r.e ∧ (s.resetFrom r).r8 .H = r.h ∧
      (s.resetFrom r).r8 .L = r.l ∧ (s.resetFrom r).f = r.f) ∧
    (s.resetFrom r).pc = r.pc ∧ (s.resetFrom r).sp = r.sp ∧ (s.resetFrom r).ime = r.ime ∧
    Reports (s.resetFrom r) r.lastClockT ∧ (s.resetFrom r).mem = s.mem ∧
    (s.resetFrom r).bus = s.bus ∧ (s.resetFrom r).accesses = []

/-- The invariants of the state hold after reset, with every legal RESET_STATE, and after every step from a state that
has them (R31). -/
def Obligations.InvariantHoldsAfterResetAndEveryStep : Prop :=
  (∀ (r : Config.ResetRecord) (s : State), r.Legal → Memory.wf s.mem = true →
      (s.resetFrom r).Inv ∧ (s.resetFrom r).WidthsHold) ∧
    ∀ s t : State, s.Inv → step s = .next t → t.Inv ∧ t.WidthsHold

/-- Every instruction, in every state, answers a next state, and so does every step: no fault and no refusal
(40_step_dispatch.md R117; 60_exceptions.md R320; 60_exceptions.md R334; 95_test_vectors.md Q2). -/
def Obligations.EveryInstructionCompletes : Prop :=
  (∀ (i : Instr) (s : State), ∃ t, exec i s = .next t) ∧ ∀ s : State, ∃ t, step s = .next t

/-- From every state a run of any number of steps reaches a next state: the block has no end of its own
(40_step_dispatch.md R123; 40_step_dispatch.md R117). -/
def Obligations.RunNeverEnds : Prop :=
  ∀ s : State, s.RunsOn ∧ ∀ (n : Nat) (t : State), step s = .next t → runSteps (n + 1) s = runSteps n t

/-- Every outside move of the model's list (log 19), made between steps, keeps the invariant (10_state.md R33;
10_state.md R31; 10_state.md R35). The list of moves, with the masking of F and the tie of the counters, is the
model's: log 19, DESIGN CHOICE; R33 leaves HOST_MOVES open. -/
def Obligations.OutsideMovesKeepInvariant : Prop :=
  ∀ (m : Outside.Move) (s : State), s.Inv → (∀ r, m = .reset r → r.Legal) → (Outside.apply m s).Inv

/-- Decoding the encoding of a well-formed instruction gives that instruction and the bytes after it (30_encoding.md
R81 to R95; 30_encoding.md R90; 30_encoding.md R91; 30_encoding.md R92). -/
def Obligations.DecodeOfEncodeIsTheInstruction : Prop :=
  ∀ (i : Instr) (rest : List Byte), i.wellFormed = true → decode (encode i ++ rest) = .ok (i, rest)

/-- Encoding what three bytes decode to gives back exactly the bytes of the instruction they begin with
(30_encoding.md R81; 30_encoding.md R95; 30_encoding.md R99). -/
def Obligations.EncodeOfDecodeIsTheBytes : Prop :=
  ∀ b0 b1 b2 : Byte,
    (decode3 b0 b1 b2).wellFormed = true ∧ encode (decode3 b0 b1 b2) = [b0, b1, b2].take (lengthOf b0) ∧
    1 ≤ lengthOf b0 ∧ lengthOf b0 ≤ 3 ∧ lengthOf Config.prefixByte = 2

/-- Every byte has exactly one row in each table, and decoding never fails (R99). -/
def Obligations.EveryOpcodeByteHasOneRow : Prop :=
  (∀ (b0 b1 b2 : Byte) (rest : List Byte), ∃ i after, decode (b0 :: b1 :: b2 :: rest) = .ok (i, after)) ∧
    (∀ b0 b1 b2 c0 c1 c2 : Byte, b0 ≠ Config.prefixByte → c0 ≠ Config.prefixByte →
      ((decode3 b0 b1 b2).ctorIdx = (decode3 c0 c1 c2).ctorIdx ↔ b0 = c0)) ∧
    (∀ b1 b2 c1 c2 : Byte,
      ((decode3 Config.prefixByte b1 b2).ctorIdx = (decode3 Config.prefixByte c1 c2).ctorIdx ↔ b1 = c1)) ∧
    (∀ b0 b1 b2 c1 c2 : Byte, b0 ≠ Config.prefixByte →
      (decode3 b0 b1 b2).ctorIdx ≠ (decode3 Config.prefixByte c1 c2).ctorIdx)

/-- Words written out from the spec's encodings decode to the instructions they stand for (30_encoding.md R91;
30_encoding.md R92; 30_encoding.md R90). -/
def Obligations.WrittenOutWordsDecode : Prop :=
  decode [0x7C#8] = .ok (.ld_A_H, []) ∧
    decode [0x21#8, 0xCD#8, 0xAB#8] = .ok (.ld_HL_d16 0xABCD#16, []) ∧
    decode [0xC6#8, 0x5A#8] = .ok (.add_A_d8 0x5A#8, []) ∧
    decode [0x33#8] = .ok (.inc_SP, []) ∧ decode [0xF5#8] = .ok (.push_AF, []) ∧
    decode [0x30#8, 0x10#8] = .ok (.jr_NC_r8 0x10#8, []) ∧
    decode [0xCD#8, 0x34#8, 0x12#8] = .ok (.call_a16 0x1234#16, []) ∧
    decode [0xFB#8] = .ok (.ei, []) ∧ decode [0xDD#8] = .ok (.unused_DD, []) ∧
    decode [0xCB#8, 0x17#8] = .ok (.rl_A, []) ∧ decode [0xCB#8, 0xCB#8] = .ok (.set_1_E, [])

/-- A step fetches the opcode at PC, after 0xCB a second byte, runs the decoded instruction from there, and always
returns (logs 4, 5, 24) (40_step_dispatch.md R110; 40_step_dispatch.md R112; 40_step_dispatch.md R113;
40_step_dispatch.md R117). That the record of accesses begins empty and the strobe lowered is the model's choice: logs
4 and 5, DESIGN CHOICE. -/
def Obligations.StepRunsTheDecodedInstruction : Prop :=
  ∀ s : State,
    (s.answer s.pc ≠ 0xCB#8 →
      step s = exec (decode3 (s.streamByte 0) (s.streamByte 1) (s.streamByte 2))
        { s with pc := s.pc + 1#16, bus := s.bus.afterAll (s.streamReads 1), accesses := s.streamReads 1
                 unusedWarn := false }) ∧
    (s.answer s.pc = 0xCB#8 →
      step s = exec (extForm (s.streamByte 1)).instr
        { s with pc := s.pc + 2#16, bus := s.bus.afterAll (s.streamReads 2), accesses := s.streamReads 2
                 unusedWarn := false }) ∧
    s.streamReads 2 = [.read s.pc (s.answer s.pc), .read (s.pc + 1#16) (s.streamByte 1)] ∧
    ∃ t, step s = .next t

/-- A step reads exactly its instruction's bytes first, and PC ends past them unless a branch is taken
(40_step_dispatch.md R111; 30_encoding.md R95; 20_memory.md R58; 95_test_vectors.md Q3). -/
def Obligations.StepConsumesItsInstruction : Prop :=
  ∀ s t : State, step s = .next t →
    (s.fetchInstr.form.notTaken s = false →
      t.accesses.take (encode s.fetchInstr).length = s.streamReads (encode s.fetchInstr).length) ∧
    (s.fetchInstr.form.notTaken s = true → t.accesses = s.streamReads 1) ∧
    (s.fetchInstr.form.branches = false ∨ s.fetchInstr.form.notTaken s = true →
      t.pc = s.pc + BitVec.ofNat 16 (encode s.fetchInstr).length)

/-- The 0xCB entry fetches its second byte and runs the extended instruction it selects; 0xCB 0xCB is SET 1,E
(40_step_dispatch.md R113; 45_system_unused.md R265). -/
def Obligations.PrefixEntryRunsTheExtendedTable : Prop :=
  ∀ (op2 : Byte) (s : State),
    (∃ t, exec (.prefixCB op2) s = .next t ∧
      exec (extForm op2).instr
        { s with pc := s.pc + 1#16, accesses := s.accesses ++ [.read s.pc op2]
                 bus := s.bus.after (.read s.pc op2) } = .next t) ∧
    ∀ b2 : Byte, decode3 0xCB#8 0xCB#8 b2 = .set_1_E

/-- Fetch8 and Fetch16 read at PC, little-endian, and advance PC by one and by two (40_step_dispatch.md R111). That
the record lists the reads and the bus has seen them is the model's choice: logs 4 and 3, DESIGN CHOICE. -/
def Obligations.FetchHelpersReadAtPC : Prop :=
  ∀ s : State,
    s.fetch8 = (s.answer s.pc,
      { s with pc := s.pc + 1#16, accesses := s.accesses ++ [.read s.pc (s.answer s.pc)]
               bus := s.bus.after (.read s.pc (s.answer s.pc)) }) ∧
    (s.fetch16.1.toNat = s.wordAt s.pc ∧
      s.fetch16.2 =
        { s with pc := s.pc + 2#16, accesses := s.accesses ++ s.wordReadsAt s.pc
                 bus := s.bus.afterAll (s.wordReadsAt s.pc) }) ∧
    (s.pc = 0xA050#16 → s.wordReadsAt s.pc = [.read 0xA050#16 0x34#8, .read 0xA051#16 0x12#8] →
      ∃ t, exec (.ld_BC_d16 s.fetch16.1) s = .next t ∧ t.r8 .C = 0x34#8 ∧ t.r8 .B = 0x12#8 ∧ t.pc = 0xA052#16)

/-- Every instruction overwrites the counters with its cost, M = T / 4, T one of 4 to 24 (UNUSED_T and BIT_HL_T are
logs 7 and 9) (40_step_dispatch.md R114; 70_reset_and_hazards.md R359; 10_state.md R30; 46_extended_cb.md R281;
45_system_unused.md R266). -/
def Obligations.EveryInstructionReportsItsCost : Prop :=
  ∀ (i : Instr) (s t : State), exec i s = .next t →
    t.lastClockT = i.form.handler.cost s ∧ t.lastClockM = t.lastClockT / 4 ∧
    t.lastClockT ∈ [4, 8, 12, 16, 20, 24]

/-- InterruptEnable is written by EI, DI and RETI only, at once (log 10), and no instruction reads it
(60_exceptions.md R322; 10_state.md R29; 45_system_unused.md R260; 45_system_unused.md R261; 44_stack_control.md
R241). That EI and DI act at once, EI_DELAY = 0, is the spec's decision D7 and D6: log 10. -/
def Obligations.InterruptEnableWrittenByThreeAndReadByNone : Prop :=
  (∀ s : State, (∃ t, exec .ei s = .next t ∧ t.ime = true) ∧ (∃ t, exec .di s = .next t ∧ t.ime = false) ∧
      ∃ t, exec .reti s = .next t ∧ t.ime = true) ∧
    (∀ (i : Instr) (s : State), i ∉ [.ei, .di, .reti] →
      ∃ t, exec i s = .next t ∧ t.ime = s.ime ∧ ∀ b, exec i (s.setIME b) = .next (t.setIME b)) ∧
    ∀ (i : Instr) (s : State) (b : Bool), i ∈ [.ei, .di, .reti] → exec i (s.setIME b) = exec i s

/-- No instruction reads the counters, and a step depends neither on them nor on the model's own record of accesses
and strobe (logs 4, 5) (10_state.md R30; 60_exceptions.md R329; 70_reset_and_hazards.md R359; 60_exceptions.md R332).
The record of accesses and the strobe are the model's own fields, cleared when a step begins: logs 4 and 5, DESIGN
CHOICE. -/
def Obligations.CountersAndRecordsAreNeverRead : Prop :=
  (∀ (i : Instr) (s : State) (t m : Nat), exec i { s with lastClockT := t, lastClockM := m } = exec i s) ∧
    ∀ (s : State) (t m : Nat) (xs : List Access) (w : Bool),
      step { s with lastClockT := t, lastClockM := m, accesses := xs, unusedWarn := w } = step s

/-- A step issues exactly the reads and writes of its instruction, in order, no dummy one: at most four reads and two
writes (log 13) (20_memory.md R58; 20_memory.md R53; 95_test_vectors.md Q16). The order of the accesses and that a
skipped operand is not read are the spec's decisions D11 and D12: log 13. -/
def Obligations.StepIssuesBoundedAccesses : Prop :=
  ∀ s t : State, step s = .next t →
    (∃ writes : List Access, (∀ x ∈ writes, x.isWrite = true) ∧
      writes.map Access.addr = s.fetchInstr.form.storesAt s ∧
      t.accesses =
        s.readsOf (s.streamAddrs (s.fetchInstr.form.streamLength s) ++ s.fetchInstr.form.dataReads s) ++ writes) ∧
    (readCount t.accesses ≤ 4 ∧ writeCount t.accesses ≤ 2 ∧
      (writeCount t.accesses = 2 → readCount t.accesses ≤ 3)) ∧
    (s.answer s.pc = 0xCB#8 → ∀ o,
      (∀ n, extForm (s.streamByte 1) = .bit n o → readCount t.accesses = 2 + o.memCount ∧ writeCount t.accesses = 0) ∧
      ((∃ op, extForm (s.streamByte 1) = .rot op o) ∨ (∃ n, extForm (s.streamByte 1) = .res n o) ∨
          (∃ n, extForm (s.streamByte 1) = .set n o) →
        readCount t.accesses = 2 + o.memCount ∧ writeCount t.accesses = o.memCount))

/-- The core's own state after an instruction does not depend on which writes the bus accepts, and a read after a
write need not return what was written (20_memory.md R56). That acceptance is held as ranges of addresses, and the
record of accesses, are the model's choice: logs 3 and 4, DESIGN CHOICE. -/
def Obligations.BusAcceptanceIsInvisible : Prop :=
  (∀ (i : Instr) (s : State) (ranges : List AddrRange),
      ∃ t t', exec i s = .next t ∧ exec i { s with bus := { s.bus with nonWritable := ranges } } = .next t' ∧
        SameRegisterFile t t' ∧ t'.accesses = t.accesses) ∧
    ∃ (s : State) (a : Word) (v : Byte), ((s.writeByte a v).readByte a).1 ≠ v

/-- A read returns what the bus answers: memory's byte on plain memory, elsewhere any value, and two reads of one
address need not agree (log 3) (20_memory.md R57; 20_memory.md R51; 00_scope.md R6; 92_eei_decisions.md D22). How the
bus is held in the state is the model's choice: log 3, DESIGN CHOICE. -/
def Obligations.BusAnswersAreAnyValue : Prop :=
  (∀ (s : State) (a : Word),
      (s.bus.isRam a = true → (s.readByte a).1 = s.peek a ∧ (s.readByte a).2.bus = s.bus) ∧
      (s.bus.isRam a = false →
        (∀ v vs, s.bus.answers = v :: vs → (s.readByte a).1 = v ∧ (s.readByte a).2.bus.answers = vs) ∧
        (s.bus.answers = [] → (s.readByte a).1 = Config.busAnswer s.bus.history a) ∧
        (s.readByte a).2.bus.history = .read a (s.readByte a).1 :: s.bus.history)) ∧
    ∀ (s : State) (v w : Byte),
      (∀ a : Word, ∃ b : Bus,
        (({ s with bus := b } : State).readByte a).1 = v ∧ ((({ s with bus := b } : State).readByte a).2.readByte a).1 = w) ∧
      ∃ (b : Bus) (t u : State), exec .ld_A_atHL { s with bus := b } = .next t ∧ t.a = v ∧
        exec .ld_A_atHL t = .next u ∧ u.a = w

/-- Every instruction leaves every flag that the table of R25 does not have it write (10_state.md R25;
40_step_dispatch.md R115). -/
def Obligations.FlagsChangeOnlyWhereTheTableSays : Prop :=
  ∀ (i : Instr) (s t : State), exec i s = .next t →
    (∀ fl, fl ∉ i.form.handler.flagsWritten → t.flag fl = s.flag fl) ∧
    (i ≠ .pop_AF → t.f &&& 0x0F#8 = s.f &&& 0x0F#8) ∧ (i = .pop_AF → t.f &&& 0x0F#8 = 0#8)

/-- Every instruction leaves every register that its rule does not assign, and SP unless it is one of the instructions
of R27 (40_step_dispatch.md R115; 10_state.md R27; 10_state.md R21). -/
def Obligations.RegistersChangeOnlyWhereTheRuleSays : Prop :=
  ∀ (i : Instr) (s t : State), exec i s = .next t →
    KeepsRegs i.form.handler.regsWritten s t ∧ (i.form.writesSP = false → t.sp = s.sp) ∧
    t.bus.map = s.bus.map

/-- Every byte of memory outside the addresses an instruction stores to, and every one where the bus ignores writes,
is unchanged (40_step_dispatch.md R115; 20_memory.md R58; 20_memory.md R56). -/
def Obligations.MemoryChangesOnlyWhereStored : Prop :=
  (∀ (i : Instr) (s t : State), exec i s = .next t →
      KeepsMemory (i.form.handler.storesAt s) s t ∧ ∀ a, s.accepts a = false → t.peek a = s.peek a) ∧
    ∀ s t : State, step s = .next t → ∀ a, s.accepts a = false → t.peek a = s.peek a

/-- 16-bit INC and DEC set no flag, ADD HL,rr keeps Z, CPL, SCF, CCF keep Z, RLCA, RLA, RRCA, RRA force Z to 0, the
extended rotates compute it (R358). -/
def Obligations.FlagTrapsOfTheInstructionSet : Prop :=
  ∀ s : State,
    (∀ rr, ∃ t, exec (Instr.inc16Of rr) s = .next t ∧ t.f = s.f) ∧
    (∀ rr, ∃ t, exec (Instr.dec16Of rr) s = .next t ∧ t.f = s.f) ∧
    (∀ rr, ∃ t, exec (Instr.addHLOf rr) s = .next t ∧ t.flag .Z = s.flag .Z) ∧
    (∀ i ∈ [Instr.cpl, .scf, .ccf], ∃ t, exec i s = .next t ∧ t.flag .Z = s.flag .Z) ∧
    (∀ i ∈ [Instr.rlca, .rla, .rrca, .rra], ∃ t, exec i s = .next t ∧ t.flag .Z = false) ∧
    (∀ op r, ∃ t, exec (Instr.rotOf op (.reg r)) s = .next t ∧ t.flag .Z = decide ((t.r8 r).toNat = 0)) ∧
    (∀ op, ∃ t, exec (Instr.rotOf op .atHL) s = .next t ∧ ∃ v w, t.accesses = s.accesses ++
      [.read s.hl v, .write s.hl w] ∧ t.flag .Z = decide (w.toNat = 0))

/-- cond(cc) tests F at handler entry; JP, JR, CALL, RET cc go to their target when it holds and change no flag (JR's
base: log 17) (40_step_dispatch.md R120; 44_stack_control.md R234; 44_stack_control.md R236; 44_stack_control.md R238;
44_stack_control.md R240; 92_eei_decisions.md D14). JR's base is the spec's decision D14: log 17. The direction not
taken is in Jumps, Calls and Returns. -/
def Obligations.ConditionTestsTheFlags : Prop :=
  ∀ s : State,
    (s.cond .NZ = true ↔ s.f.getLsbD 7 = false) ∧ (s.cond .Z = true ↔ s.f.getLsbD 7 = true) ∧
    (s.cond .NC = true ↔ s.f.getLsbD 4 = false) ∧ (s.cond .C = true ↔ s.f.getLsbD 4 = true) ∧
    ∀ cc : Cond,
      (∀ a16, ∃ t, exec (Instr.jpCOf cc a16) s = .next t ∧ t.f = s.f ∧ (s.cond cc = true → t.pc = a16)) ∧
      (∀ r8, ∃ t, exec (Instr.jrCOf cc r8) s = .next t ∧ t.f = s.f ∧
        (s.cond cc = true → t.pc = s.pc + 1#16 + sext16 r8)) ∧
      (∀ a16, ∃ t, exec (Instr.callCOf cc a16) s = .next t ∧ t.f = s.f ∧ (s.cond cc = true → t.pc = a16)) ∧
      ∃ t, exec (Instr.retCOf cc) s = .next t ∧ t.f = s.f ∧ (s.cond cc = true → t.pc = s.pop16.1)

/-- Push16 decrements SP by two and then writes low byte at SP, high byte at SP + 1; Pop16 reads them and then
increments SP by two (40_step_dispatch.md R121; 10_state.md R27; 20_memory.md R53). -/
def Obligations.StackHelpersPushAndPop : Prop :=
  ∀ (s : State) (w : Word), Memory.wf s.mem = true →
    ((s.push16 w).sp.toNat = (s.sp.toNat + 65534) % 65536 ∧ StoredWord s (s.push16 w) (s.sp - 2#16) w ∧
      Frame [] [] s.pushAddrs s (s.push16 w) ∧ (s.push16 w).pc = s.pc ∧ (s.push16 w).ime = s.ime ∧
      Issues s (s.push16 w) [.write (s.sp - 2#16) (lo8 w), .write (s.sp - 2#16 + 1#16) (hi8 w)]) ∧
    (s.pop16.1.toNat = s.wordAt s.sp ∧
      s.pop16.2.sp.toNat = (s.sp.toNat + 2) % 65536 ∧ Frame [] [] [] s s.pop16.2 ∧ s.pop16.2.pc = s.pc ∧
      s.pop16.2.ime = s.ime ∧
      Issues s s.pop16.2 (s.wordReadsAt s.sp)) ∧
    (s.sp = 0x0001#16 → (s.push16 w).sp = 0xFFFF#16 ∧ s.pushAddrs = [0xFFFF#16, 0x0000#16])

/-- A pair view is its first register times 256 plus its second; writing one writes both bytes and nothing else; AF
masks the low nibble (log 16) (10_state.md R22; 30_encoding.md R84; 30_encoding.md R85). -/
def Obligations.PairViewsAreTheirBytes : Prop :=
  ∀ (s : State) (w : Word),
    (s.bc.toNat = s.b.toNat * 256 + s.c.toNat ∧ s.de.toNat = s.d.toNat * 256 + s.e.toNat ∧
      s.hl.toNat = s.h.toNat * 256 + s.l.toNat ∧ s.af.toNat = s.a.toNat * 256 + s.f.toNat) ∧
    s.setBC w = { s with b := hi8 w, c := lo8 w } ∧ s.setDE w = { s with d := hi8 w, e := lo8 w } ∧
    s.setHL w = { s with h := hi8 w, l := lo8 w } ∧ s.setAF w = { s with a := hi8 w, f := lo8 w &&& 0xF0#8 } ∧
    (lo8 w).toNat = w.toNat % 256 ∧ (hi8 w).toNat = w.toNat / 256

/-- Z, N, H, C are bits 7, 6, 5, 4 of F; writing a flag writes only its bit; the low nibble is zero at reset and stays
so after every step (R24). -/
def Obligations.FlagRegisterLayout : Prop :=
  (∀ s : State, s.flag .Z = s.f.getLsbD 7 ∧ s.flag .N = s.f.getLsbD 6 ∧ s.flag .H = s.f.getLsbD 5 ∧
      s.flag .C = s.f.getLsbD 4) ∧
    (∀ (s : State) (fl : Flag) (v : Bool), (s.setFlag fl v).flag fl = v ∧
      (∀ k, k ≠ fl.bit → (s.setFlag fl v).f.getLsbD k = s.f.getLsbD k) ∧
      s.setFlag fl v = { s with f := (s.setFlag fl v).f }) ∧
    (∀ (r : Config.ResetRecord) (s : State), r.Legal → (s.resetFrom r).f &&& 0x0F#8 = 0#8) ∧
    ∀ s t : State, s.f &&& 0x0F#8 = 0#8 → step s = .next t → t.f &&& 0x0F#8 = 0#8

/-- A word written where the bus accepts both bytes is read back, low byte at the address and high byte at the next,
wrapping (20_memory.md R52; 20_memory.md R53; 20_memory.md R56). -/
def Obligations.WordWrittenIsReadBack : Prop :=
  ∀ (s : State) (a w : Word), Memory.wf s.mem = true →
    (s.accepts a = true → s.accepts (a + 1#16) = true →
      ((s.writeWord a w).readWord a).1 = w ∧ (s.writeWord a w).peek a = lo8 w ∧
        (s.writeWord a w).peek (a + 1#16) = hi8 w) ∧
    (s.accepts a = false → s.accepts (a + 1#16) = false → (s.writeWord a w).mem = s.mem) ∧
    (∀ b, b ≠ a → b ≠ a + 1#16 → (s.writeWord a w).peek b = s.peek b) ∧
    Memory.wf (s.writeWord a w).mem = true

/-- The effective address of every accumulator load and store, as a number (41_loads.md R136 to R150; 20_memory.md
R60; 30_encoding.md R90). -/
def Obligations.EffectiveAddresses : Prop :=
  ∀ (s : State) (m : AccMode),
    (s.accAddr m).toNat =
      match m with
      | .atBC => s.b.toNat * 256 + s.c.toNat
      | .atDE => s.d.toNat * 256 + s.e.toNat
      | .atHLinc => s.h.toNat * 256 + s.l.toNat
      | .atHLdec => s.h.toNat * 256 + s.l.toNat
      | .atA16 a16 => a16.toNat
      | .highA8 a8 => 0xFF00 + a8.toNat
      | .highC => 0xFF00 + s.c.toNat

/-- LD r,r' copies a register, self-copies included, and LD r,[HL] reads the byte at HL; flags and everything else are
unchanged (41_loads.md R130; 41_loads.md R134). -/
def Obligations.LoadRegisterFromRegisterOrHL : Prop :=
  ∀ (d : Reg8) (s : State),
    (∀ r : Reg8, ∃ t, exec (Instr.ldRROf d r) s = .next t ∧ t.r8 d = s.r8 r ∧ Frame [d] [] [] s t ∧
      KeepsSystem s t ∧ Ends s t s.pc 4 []) ∧
    ∃ t, exec (Instr.ldRMOf d) s = .next t ∧ t.r8 d = s.answer s.hl ∧ Frame [d] [] [] s t ∧
      KeepsSystem s t ∧ Ends s t s.pc 8 [.read s.hl (s.answer s.hl)]

/-- LD r,d8 loads the immediate byte and moves PC past it; nothing else changes (41_loads.md R131; 30_encoding.md
R90). -/
def Obligations.LoadRegisterImmediate : Prop :=
  ∀ (d : Reg8) (d8 : Byte) (s : State),
    ∃ t, exec (Instr.ldRIOf d d8) s = .next t ∧ t.r8 d = d8 ∧ Frame [d] [] [] s t ∧ KeepsSystem s t ∧
      Ends s t (s.pc + 1#16) 8 [.read s.pc d8]

/-- LD rr,d16 loads BC, DE, HL or SP with the little-endian immediate; nothing else changes (41_loads.md R133;
30_encoding.md R84). -/
def Obligations.LoadPairImmediate : Prop :=
  ∀ (rr : Pair) (d16 : Word) (s : State),
    ∃ t, exec (Instr.ldPIOf rr d16) s = .next t ∧ t.r16 rr = d16 ∧ (rr ≠ .SP → t.sp = s.sp) ∧ t.ime = s.ime ∧
      Frame rr.regs [] [] s t ∧ Ends s t (s.pc + 2#16) 12 (wordReads s.pc d16)

/-- LD [HL],r and LD [HL],d8 store at HL, where the bus accepts it, and change nothing else (41_loads.md R132;
41_loads.md R135). -/
def Obligations.StoreAtHL : Prop :=
  ∀ s : State, Memory.wf s.mem = true →
    (∀ r : Reg8, ∃ t, exec (Instr.ldMROf r) s = .next t ∧ Stored s t s.hl (s.r8 r) ∧ Frame [] [] [s.hl] s t ∧
      KeepsSystem s t ∧ Ends s t s.pc 8 [.write s.hl (s.r8 r)]) ∧
    ∀ d8 : Byte, ∃ t, exec (.ld_atHL_d8 d8) s = .next t ∧ Stored s t s.hl d8 ∧ Frame [] [] [s.hl] s t ∧
      KeepsSystem s t ∧ Ends s t (s.pc + 1#16) 12 [.read s.pc d8, .write s.hl d8]

/-- The seven stores of A write it at their effective address, [HL+] and [HL-] then move HL, and nothing else changes
(41_loads.md R136; 41_loads.md R137; 41_loads.md R140; 41_loads.md R142; 41_loads.md R144; 41_loads.md R147;
41_loads.md R149). -/
def Obligations.StoreAccumulator : Prop :=
  ∀ (m : AccMode) (s : State), Memory.wf s.mem = true →
    ∃ t, exec (Instr.stAccOf m) s = .next t ∧ Stored s t (s.accAddr m) s.a ∧ t.hl = s.accHL m ∧
      Frame m.regs [] [s.accAddr m] s t ∧ KeepsSystem s t ∧
      Ends s t (s.accNext m) ((Form.stAcc m).cost s) (s.accReads m ++ [.write (s.accAddr m) s.a])

/-- The seven loads of A read the byte at their effective address, [HL+] and [HL-] then move HL, and nothing else
changes (41_loads.md R138; 41_loads.md R139; 41_loads.md R141; 41_loads.md R143; 41_loads.md R145; 41_loads.md R148;
41_loads.md R150). -/
def Obligations.LoadAccumulator : Prop :=
  ∀ (m : AccMode) (s : State),
    ∃ t, exec (Instr.ldAccOf m) s = .next t ∧ t.r8 .A = s.answerAfter (s.accReads m) (s.accAddr m) ∧
      t.hl = s.accHL m ∧
      Frame (.A :: m.regs) [] [] s t ∧ KeepsSystem s t ∧
      Ends s t (s.accNext m) ((Form.ldAcc m).cost s)
        (s.accReads m ++ [.read (s.accAddr m) (s.answerAfter (s.accReads m) (s.accAddr m))])

/-- LD [a16],SP writes SP as a little-endian word at the immediate address, wrapping, and changes nothing else
(41_loads.md R146; 20_memory.md R53). -/
def Obligations.StoreStackPointer : Prop :=
  ∀ (a16 : Word) (s : State), Memory.wf s.mem = true →
    ∃ t, exec (.ld_atA16_SP a16) s = .next t ∧ StoredWord s t a16 s.sp ∧
      Frame [] [] [a16, a16 + 1#16] s t ∧ KeepsSystem s t ∧
      Ends s t (s.pc + 2#16) 20 (wordReads s.pc a16 ++ wordWrites a16 s.sp)

/-- Opcode 0xF9, LD HL,SP, copies SP into HL, the source's direction (F9_SEMANTICS = doc, log 8); nothing else changes
(41_loads.md R151; 90_conflicts.md C7). -/
def Obligations.CopyStackPointerToHL : Prop :=
  ∀ s : State,
    ∃ t, exec .ld_HL_SP s = .next t ∧ t.hl = s.sp ∧ Frame [.H, .L] [] [] s t ∧ KeepsSystem s t ∧ Ends s t s.pc 8 []

/-- 8-bit INC and DEC, on a register or [HL], wrap, compute Z and H, force N, leave C and change nothing else
(42_alu8.md R173; 42_alu8.md R174; 42_alu8.md R175; 42_alu8.md R176). -/
def Obligations.IncrementAndDecrement8 : Prop :=
  ∀ (o : Opnd8) (s : State), Memory.wf s.mem = true →
    (∃ t v, exec (Instr.inc8Of o) s = .next t ∧ v.toNat = ((s.opnd o).toNat + 1) % 256 ∧ Written s t o v ∧
      FlagsAre t (decide ((s.opnd o).toNat = 255)) false (decide ((s.opnd o).toNat % 16 = 15)) (s.flag .C) ∧
      Frame o.regs [.Z, .N, .H] (o.storesAt s) s t ∧ KeepsSystem s t ∧
      Ends s t s.pc (opndCost 4 12 o) (s.opndReads o ++ s.opndWrites o v)) ∧
    ∃ t v, exec (Instr.dec8Of o) s = .next t ∧ v.toNat = ((s.opnd o).toNat + 255) % 256 ∧ Written s t o v ∧
      FlagsAre t (decide ((s.opnd o).toNat = 1)) true (decide ((s.opnd o).toNat % 16 = 0)) (s.flag .C) ∧
      Frame o.regs [.Z, .N, .H] (o.storesAt s) s t ∧ KeepsSystem s t ∧
      Ends s t s.pc (opndCost 4 12 o) (s.opndReads o ++ s.opndWrites o v)

/-- ADD, ADC, SUB, SBC, AND, XOR, OR, CP on a register, [HL] or an immediate: result and four flags on numbers (ADC
and SBC flags: log 14) (42_alu8.md R171; 42_alu8.md R172; 42_alu8.md R177 to R200). -/
def Obligations.AccumulatorArithmeticAndLogic : Prop :=
  ∀ (op : AluOp) (s : State),
    (∀ o : Opnd8, ∃ t z n h c, exec (Instr.aluOf op o) s = .next t ∧
      AluClaim op s.a (s.opnd o) (s.flag .C) (t.r8 .A) z n h c ∧ FlagsAre t z n h c ∧
      Frame [.A] [.Z, .N, .H, .C] [] s t ∧ KeepsSystem s t ∧ Ends s t s.pc (opndCost 4 8 o) (s.opndReads o)) ∧
    ∀ d8 : Byte, ∃ t z n h c, exec (Instr.aluIOf op d8) s = .next t ∧
      AluClaim op s.a d8 (s.flag .C) (t.r8 .A) z n h c ∧ FlagsAre t z n h c ∧
      Frame [.A] [.Z, .N, .H, .C] [] s t ∧ KeepsSystem s t ∧ Ends s t (s.pc + 1#16) 8 [.read s.pc d8]

/-- DAA: the two independent adjustments in each direction, C never cleared, H cleared, N kept (high-digit conditions:
log 12) (42_alu8.md R201; 90_conflicts.md C2; 92_eei_decisions.md D8). -/
def Obligations.DecimalAdjust : Prop :=
  ∀ s : State,
    ∃ t, exec .daa s = .next t ∧
      (s.flag .N = false → ∃ low high : Nat,
        low = (if s.flag .H = true ∨ s.a.toNat % 16 > 9 then s.a.toNat + 6 else s.a.toNat) ∧
        high = (if s.flag .C = true ∨ low > 0x9F then low + 0x60 else low) ∧
        t.a.toNat = high % 256 ∧ t.flag .C = (s.flag .C || decide (high > 255))) ∧
      (s.flag .N = true →
        t.a.toNat = (s.a.toNat + 512 - (if s.flag .H = true then 6 else 0) - (if s.flag .C = true then 0x60 else 0)) % 256 ∧
        t.flag .C = s.flag .C) ∧
      t.flag .H = false ∧ t.flag .Z = decide (t.a.toNat = 0) ∧
      Frame [.A] [.Z, .H, .C] [] s t ∧ KeepsSystem s t ∧ Ends s t s.pc 4 []

/-- DAA after ADC or ADD gives the packed decimal sum, after SBC or SUB the packed decimal difference, with the carry
(logs 12, 14) (95_test_vectors.md Q14; 42_alu8.md R201; 42_alu8.md R180; 42_alu8.md R189; 00_scope.md R12). DAA's
high-digit conditions and the carry-in of ADC and SBC are the spec's decisions D8 and D15: logs 12 and 14. -/
def Obligations.PackedDecimalSumsAndDifferences : Prop :=
  ∀ (x y : Nat) (s : State), x < 100 → y < 100 → s.a = packedDecimal x →
    (∃ t u, exec (.adc_A_d8 (packedDecimal y)) s = .next t ∧ exec .daa t = .next u ∧
      u.a = packedDecimal ((x + y + (s.flag .C).toNat) % 100) ∧
      u.flag .C = decide (x + y + (s.flag .C).toNat ≥ 100)) ∧
    (∃ t u, exec (.add_A_d8 (packedDecimal y)) s = .next t ∧ exec .daa t = .next u ∧
      u.a = packedDecimal ((x + y) % 100) ∧ u.flag .C = decide (x + y ≥ 100)) ∧
    (∃ t u, exec (.sbc_A_d8 (packedDecimal y)) s = .next t ∧ exec .daa t = .next u ∧
      u.a = packedDecimal ((x + 200 - y - (s.flag .C).toNat) % 100) ∧
      u.flag .C = decide (x < y + (s.flag .C).toNat)) ∧
    ∃ t u, exec (.sub_A_d8 (packedDecimal y)) s = .next t ∧ exec .daa t = .next u ∧
      u.a = packedDecimal ((x + 100 - y) % 100) ∧ u.flag .C = decide (x < y)

/-- CPL complements A and sets N and H; SCF sets C and CCF complements it, both clearing N and H; Z and everything
else stay (42_alu8.md R202; 42_alu8.md R203; 42_alu8.md R204). -/
def Obligations.ComplementAndCarryFlag : Prop :=
  ∀ s : State,
    (∃ t, exec .cpl s = .next t ∧ t.a.toNat = 255 - s.a.toNat ∧ FlagsAre t (s.flag .Z) true true (s.flag .C) ∧
      Frame [.A] [.N, .H] [] s t ∧ KeepsSystem s t ∧ Ends s t s.pc 4 []) ∧
    (∃ t, exec .scf s = .next t ∧ FlagsAre t (s.flag .Z) false false true ∧ Frame [] [.N, .H, .C] [] s t ∧
      KeepsSystem s t ∧ Ends s t s.pc 4 []) ∧
    ∃ t, exec .ccf s = .next t ∧ FlagsAre t (s.flag .Z) false false (!s.flag .C) ∧ Frame [] [.N, .H, .C] [] s t ∧
      KeepsSystem s t ∧ Ends s t s.pc 4 []

/-- RLCA, RRCA rotate A in a circle, RLA, RRA through carry; C is the outgoing bit, Z, N and H are forced to 0 (names:
log 17) (42_alu8.md R205; 42_alu8.md R206; 42_alu8.md R207; 42_alu8.md R208). -/
def Obligations.AccumulatorRotates : Prop :=
  ∀ s : State, ∀ p ∈ [(Instr.rlca, RotOp.rlc), (.rla, .rl), (.rrca, .rrc), (.rra, .rr)],
    ∃ t, exec p.1 s = .next t ∧ RotClaim p.2 s.a (s.flag .C) (t.r8 .A) (t.flag .C) ∧
      FlagsAre t false false false (t.flag .C) ∧ Frame [.A] [.Z, .N, .H, .C] [] s t ∧ KeepsSystem s t ∧
      Ends s t s.pc 4 []

/-- spdisp: the signed 16-bit sum, with half carry and carry of the unsigned low-byte addition (R210). -/
def Obligations.StackPointerDisplacementSum : Prop :=
  ∀ (sp : Word) (e : Byte),
    ((spdisp sp e).res.toNat : Int) = ((sp.toNat : Int) + e.toInt) % 65536 ∧
    (spdisp sp e).h = decide (sp.toNat % 16 + e.toNat % 16 > 15) ∧
    (spdisp sp e).c = decide (sp.toNat % 256 + e.toNat > 255) ∧
    (e.toInt < 0 → ((spdisp sp e).c = true ↔ 0 ≤ ((sp.toNat % 256 : Nat) : Int) + e.toInt))

/-- LD HL,SP+r8 and ADD SP,r8 write spdisp's sum to HL and to SP, clear Z and N and set H and C from it (43_alu16.md
R211; 43_alu16.md R212; 95_test_vectors.md Q13). -/
def Obligations.StackPointerPlusDisplacement : Prop :=
  ∀ (r8 : Byte) (s : State),
    (∃ t, exec (.ld_HL_SPr8 r8) s = .next t ∧ t.hl = (spdisp s.sp r8).res ∧
      FlagsAre t false false (spdisp s.sp r8).h (spdisp s.sp r8).c ∧ Frame [.H, .L] [.Z, .N, .H, .C] [] s t ∧
      KeepsSystem s t ∧ Ends s t (s.pc + 1#16) 12 [.read s.pc r8]) ∧
    ∃ t, exec (.add_SP_r8 r8) s = .next t ∧ t.sp = (spdisp s.sp r8).res ∧ t.ime = s.ime ∧
      FlagsAre t false false (spdisp s.sp r8).h (spdisp s.sp r8).c ∧ Frame [] [.Z, .N, .H, .C] [] s t ∧
      Ends s t (s.pc + 1#16) 16 [.read s.pc r8]

/-- 16-bit INC and DEC of BC, DE, HL and SP wrap modulo 65536 and change no flag and nothing else (43_alu16.md R213;
43_alu16.md R214). -/
def Obligations.IncrementAndDecrement16 : Prop :=
  ∀ (rr : Pair) (s : State),
    (∃ t, exec (Instr.inc16Of rr) s = .next t ∧ (t.r16 rr).toNat = ((s.r16 rr).toNat + 1) % 65536 ∧
      (rr ≠ .SP → t.sp = s.sp) ∧ t.ime = s.ime ∧ Frame rr.regs [] [] s t ∧ Ends s t s.pc 8 []) ∧
    ∃ t, exec (Instr.dec16Of rr) s = .next t ∧ (t.r16 rr).toNat = ((s.r16 rr).toNat + 65535) % 65536 ∧
      (rr ≠ .SP → t.sp = s.sp) ∧ t.ime = s.ime ∧ Frame rr.regs [] [] s t ∧ Ends s t s.pc 8 []

/-- ADD HL,rr adds modulo 65536, half carry out of bit 11, carry out of bit 15, N cleared, Z kept (43_alu16.md R215).
-/
def Obligations.AddToHL : Prop :=
  ∀ (rr : Pair) (s : State),
    ∃ t, exec (Instr.addHLOf rr) s = .next t ∧ t.hl.toNat = (s.hl.toNat + (s.r16 rr).toNat) % 65536 ∧
      FlagsAre t (s.flag .Z) false (decide (s.hl.toNat % 4096 + (s.r16 rr).toNat % 4096 > 4095))
        (decide (s.hl.toNat + (s.r16 rr).toNat > 65535)) ∧
      Frame [.H, .L] [.N, .H, .C] [] s t ∧ KeepsSystem s t ∧ Ends s t s.pc 8 []

/-- PUSH rr puts the pair, low byte lower, in the two bytes below SP, and SP ends two less; nothing else changes
(44_stack_control.md R230; 40_step_dispatch.md R121). -/
def Obligations.PushPair : Prop :=
  ∀ (rr : StackPair) (s : State), Memory.wf s.mem = true →
    ∃ t, exec (Instr.pushOf rr) s = .next t ∧ t.sp = s.sp - 2#16 ∧ StoredWord s t (s.sp - 2#16) (s.r16s rr) ∧
      t.ime = s.ime ∧ Frame [] [] s.pushAddrs s t ∧ Ends s t s.pc 16 (wordWrites (s.sp - 2#16) (s.r16s rr))

/-- POP rr loads the pair from the two bytes at SP, low byte first, and SP ends two more; POP AF masks the low nibble
of F (log 16) (44_stack_control.md R231; 40_step_dispatch.md R121; 90_conflicts.md C11). -/
def Obligations.PopPair : Prop :=
  ∀ (rr : StackPair) (s : State),
    ∃ t, exec (Instr.popOf rr) s = .next t ∧ t.sp = s.sp + 2#16 ∧ t.ime = s.ime ∧
      (rr ≠ .AF → (t.r16s rr).toNat = s.wordAt s.sp ∧ KeepsFlags [] s t) ∧
      (rr = .AF → t.a.toNat = s.wordAt s.sp / 256 ∧ t.f = s.answer s.sp &&& 0xF0#8) ∧
      KeepsRegs rr.regs s t ∧ KeepsMemory [] s t ∧ KeepsBus s t ∧
      Ends s t s.pc 12 (s.wordReadsAt s.sp)

/-- PUSH rr and then POP rr, whatever the registers became between, restores the pair and SP if the bus accepted both
bytes (44_stack_control.md R231; 95_test_vectors.md Q4; 70_reset_and_hazards.md R357). -/
def Obligations.PushThenPopRestores : Prop :=
  ∀ (rr : StackPair) (s t : State) (a b c d e f h l : Byte), s.Inv →
    s.accepts (s.sp - 2#16) = true → s.accepts (s.sp - 2#16 + 1#16) = true →
    exec (Instr.pushOf rr) s = .next t →
    ∃ u, exec (Instr.popOf rr) { t with a := a, b := b, c := c, d := d, e := e, f := f, h := h, l := l } = .next u ∧
      u.r16s rr = s.r16s rr ∧ u.sp = s.sp

/-- JP a16, JP HL, JR r8, JP cc and JR cc: the target when taken, the next instruction when not, and nothing else
(JR's base: log 17) (44_stack_control.md R232; 44_stack_control.md R233; 44_stack_control.md R234; 44_stack_control.md
R235; 44_stack_control.md R236; 92_eei_decisions.md D14). -/
def Obligations.Jumps : Prop :=
  ∀ s : State,
    (∀ a16, ∃ t, exec (.jp_a16 a16) s = .next t ∧ Frame [] [] [] s t ∧ KeepsSystem s t ∧
      Ends s t a16 16 (wordReads s.pc a16)) ∧
    (∃ t, exec .jp_HL s = .next t ∧ Frame [] [] [] s t ∧ KeepsSystem s t ∧ Ends s t s.hl 4 []) ∧
    (∀ r8, ∃ t, exec (.jr_r8 r8) s = .next t ∧ Frame [] [] [] s t ∧ KeepsSystem s t ∧
      (t.pc.toNat : Int) = ((s.pc.toNat : Int) + 1 + r8.toInt) % 65536 ∧ Ends s t t.pc 12 [.read s.pc r8]) ∧
    (∀ cc a16, ∃ t, exec (Instr.jpCOf cc a16) s = .next t ∧ Frame [] [] [] s t ∧ KeepsSystem s t ∧
      (if s.cond cc = true then Ends s t a16 16 (wordReads s.pc a16) else Ends s t (s.pc + 2#16) 12 [])) ∧
    ∀ cc r8, ∃ t, exec (Instr.jrCOf cc r8) s = .next t ∧ Frame [] [] [] s t ∧ KeepsSystem s t ∧
      (if s.cond cc = true then
        (t.pc.toNat : Int) = ((s.pc.toNat : Int) + 1 + r8.toInt) % 65536 ∧ Ends s t t.pc 12 [.read s.pc r8]
      else Ends s t (s.pc + 1#16) 8 [])

/-- CALL pushes the address after its operand and jumps; CALL cc does so if the condition holds, else skips the
operand (44_stack_control.md R237; 44_stack_control.md R238; 40_step_dispatch.md R121). -/
def Obligations.Calls : Prop :=
  ∀ s : State, Memory.wf s.mem = true →
    (∀ a16, ∃ t, exec (.call_a16 a16) s = .next t ∧ t.sp = s.sp - 2#16 ∧
      StoredWord s t (s.sp - 2#16) (s.pc + 2#16) ∧ t.ime = s.ime ∧ Frame [] [] s.pushAddrs s t ∧
      Ends s t a16 24 (wordReads s.pc a16 ++ wordWrites (s.sp - 2#16) (s.pc + 2#16))) ∧
    ∀ cc a16, ∃ t, exec (Instr.callCOf cc a16) s = .next t ∧ t.ime = s.ime ∧
      (if s.cond cc = true then
        t.sp = s.sp - 2#16 ∧ StoredWord s t (s.sp - 2#16) (s.pc + 2#16) ∧ Frame [] [] s.pushAddrs s t ∧
          Ends s t a16 24 (wordReads s.pc a16 ++ wordWrites (s.sp - 2#16) (s.pc + 2#16))
      else t.sp = s.sp ∧ Frame [] [] [] s t ∧ Ends s t (s.pc + 2#16) 12 [])

/-- RET pops PC; RET cc does so if the condition holds, else changes nothing but the counters (44_stack_control.md
R239; 44_stack_control.md R240). -/
def Obligations.Returns : Prop :=
  ∀ s : State,
    (∃ t, exec .ret s = .next t ∧ t.sp = s.sp + 2#16 ∧ t.ime = s.ime ∧ Frame [] [] [] s t ∧
      t.pc.toNat = s.wordAt s.sp ∧ Ends s t t.pc 16 (s.wordReadsAt s.sp)) ∧
    ∀ cc, ∃ t, exec (Instr.retCOf cc) s = .next t ∧ t.ime = s.ime ∧ Frame [] [] [] s t ∧
      (if s.cond cc = true then
        t.sp = s.sp + 2#16 ∧ t.pc.toNat = s.wordAt s.sp ∧ Ends s t t.pc 20 (s.wordReadsAt s.sp)
      else t.sp = s.sp ∧ Ends s t s.pc 8 [])

/-- RETI pops PC and sets InterruptEnable at once; it restores nothing else; RET does not touch InterruptEnable
(R325). -/
def Obligations.ReturnFromInterrupt : Prop :=
  ∀ s : State,
    (∃ t, exec .reti s = .next t ∧ t.pc = s.pop16.1 ∧
      t.pc.toNat = s.wordAt s.sp ∧ t.sp = s.sp + 2#16 ∧ t.ime = true ∧ Frame [] [] [] s t ∧
      Ends s t t.pc 16 (s.wordReadsAt s.sp)) ∧
    ∃ t, exec .ret s = .next t ∧ t.ime = s.ime

/-- RST n pushes the address of the next instruction and jumps to n, one of 0x00, 0x08, ..., 0x38 (44_stack_control.md
R242; 40_step_dispatch.md R118; 20_memory.md R60). -/
def Obligations.Restarts : Prop :=
  ∀ (n : Fin 8) (s : State), Memory.wf s.mem = true →
    ∃ t, exec (Instr.rstOf n) s = .next t ∧ t.pc.toNat = 8 * n.val ∧ t.sp = s.sp - 2#16 ∧
      StoredWord s t (s.sp - 2#16) s.pc ∧ t.ime = s.ime ∧ Frame [] [] s.pushAddrs s t ∧
      Ends s t t.pc 16 (wordWrites (s.sp - 2#16) s.pc)

/-- EI and DI write InterruptEnable at once; NOP, HALT, STOP and the unused opcodes only report a cost of 4 (logs 5,
6, 7, 10) (45_system_unused.md R260; 45_system_unused.md R261; 45_system_unused.md R262; 45_system_unused.md R263;
45_system_unused.md R264; 45_system_unused.md R266; 60_exceptions.md R332). -/
def Obligations.SystemAndUnusedOpcodes : Prop :=
  ∀ s : State,
    (∃ t, exec .ei s = .next t ∧ t.ime = true ∧ t.sp = s.sp ∧ Frame [] [] [] s t ∧ Ends s t s.pc 4 []) ∧
    (∃ t, exec .di s = .next t ∧ t.ime = false ∧ t.sp = s.sp ∧ Frame [] [] [] s t ∧ Ends s t s.pc 4 []) ∧
    (∀ i ∈ [Instr.nop, .halt, .stop], ∃ t, exec i s = .next t ∧ Frame [] [] [] s t ∧ KeepsSystem s t ∧
      Ends s t s.pc 4 []) ∧
    ∀ u : UnusedOp, ∃ t, exec (Instr.unusedOf u) s = .next t ∧ KeepsRegs [] s t ∧ KeepsFlags [] s t ∧
      KeepsMemory [] s t ∧ t.bus.map = s.bus.map ∧ t.unusedWarn = true ∧ KeepsSystem s t ∧ Ends s t s.pc 4 []

/-- RLC, RRC, RL, RR, SLA, SRA, SWAP, SRL on a register or [HL]: the result on numbers, Z from it, N and H 0, C the
outgoing bit (log 15) (46_extended_cb.md R281; 46_extended_cb.md R282 to R289; 46_extended_cb.md R290 to R306). -/
def Obligations.ExtendedRotatesAndShifts : Prop :=
  ∀ (op : RotOp) (o : Opnd8) (s : State), Memory.wf s.mem = true →
    ∃ t res out, exec (Instr.rotOf op o) s = .next t ∧ RotClaim op (s.opnd o) (s.flag .C) res out ∧
      Written s t o res ∧ FlagsAre t (decide (res.toNat = 0)) false false out ∧
      Frame o.regs [.Z, .N, .H, .C] (o.storesAt s) s t ∧ KeepsSystem s t ∧
      Ends s t s.pc (opndCost 8 16 o) (s.opndReads o ++ s.opndWrites o res)

/-- BIT n on a register or [HL]: Z is the complement of the bit, N 0, H 1, C kept, nothing written (cost of [HL]: log
9) (46_extended_cb.md R307; 46_extended_cb.md R308; 46_extended_cb.md R281). -/
def Obligations.BitTest : Prop :=
  ∀ (n : Fin 8) (o : Opnd8) (s : State),
    ∃ t, exec (Instr.bitOf n o) s = .next t ∧
      FlagsAre t (decide ((s.opnd o).toNat / 2 ^ n.val % 2 = 0)) false true (s.flag .C) ∧
      Frame [] [.Z, .N, .H] [] s t ∧ KeepsSystem s t ∧ Ends s t s.pc (opndCost 8 16 o) (s.opndReads o)

/-- RES n clears and SET n sets bit n of a register or [HL] and no other bit; no flag changes (46_extended_cb.md R309;
46_extended_cb.md R310; 46_extended_cb.md R311; 46_extended_cb.md R312). -/
def Obligations.BitResetAndSet : Prop :=
  ∀ (n : Fin 8) (o : Opnd8) (s : State), Memory.wf s.mem = true →
    (∃ t v, exec (Instr.resOf n o) s = .next t ∧ Written s t o v ∧
      (∀ k, v.getLsbD k = if k = n.val then false else (s.opnd o).getLsbD k) ∧
      Frame o.regs [] (o.storesAt s) s t ∧ KeepsSystem s t ∧
      Ends s t s.pc (opndCost 8 16 o) (s.opndReads o ++ s.opndWrites o v)) ∧
    ∃ t v, exec (Instr.setOf n o) s = .next t ∧ Written s t o v ∧
      (∀ k, v.getLsbD k = if k = n.val then true else (s.opnd o).getLsbD k) ∧
      Frame o.regs [] (o.storesAt s) s t ∧ KeepsSystem s t ∧
      Ends s t s.pc (opndCost 8 16 o) (s.opndReads o ++ s.opndWrites o v)
end

