-- ==== Sys2Proof/Laws/State.lean ====
section
/-! SUPPORT. One lemma per field per update of the state, each true by definition: what a setter leaves in the field it
writes, and that it leaves every other field. -/
namespace Sys2Proof.Machine

@[simp] theorem State.setA_a (s : State) (v : Byte) : (s.setA v).a = v := rfl
@[simp] theorem State.setA_b (s : State) (v : Byte) : (s.setA v).b = s.b := rfl
@[simp] theorem State.setA_c (s : State) (v : Byte) : (s.setA v).c = s.c := rfl
@[simp] theorem State.setA_d (s : State) (v : Byte) : (s.setA v).d = s.d := rfl
@[simp] theorem State.setA_e (s : State) (v : Byte) : (s.setA v).e = s.e := rfl
@[simp] theorem State.setA_f (s : State) (v : Byte) : (s.setA v).f = s.f := rfl
@[simp] theorem State.setA_h (s : State) (v : Byte) : (s.setA v).h = s.h := rfl
@[simp] theorem State.setA_l (s : State) (v : Byte) : (s.setA v).l = s.l := rfl
@[simp] theorem State.setA_pc (s : State) (v : Byte) : (s.setA v).pc = s.pc := rfl
@[simp] theorem State.setA_sp (s : State) (v : Byte) : (s.setA v).sp = s.sp := rfl
@[simp] theorem State.setA_ime (s : State) (v : Byte) : (s.setA v).ime = s.ime := rfl
@[simp] theorem State.setA_lastClockT (s : State) (v : Byte) : (s.setA v).lastClockT = s.lastClockT := rfl
@[simp] theorem State.setA_lastClockM (s : State) (v : Byte) : (s.setA v).lastClockM = s.lastClockM := rfl
@[simp] theorem State.setA_mem (s : State) (v : Byte) : (s.setA v).mem = s.mem := rfl
@[simp] theorem State.setA_bus (s : State) (v : Byte) : (s.setA v).bus = s.bus := rfl
@[simp] theorem State.setA_accesses (s : State) (v : Byte) : (s.setA v).accesses = s.accesses := rfl
@[simp] theorem State.setA_unusedWarn (s : State) (v : Byte) : (s.setA v).unusedWarn = s.unusedWarn := rfl

@[simp] theorem State.setB_a (s : State) (v : Byte) : (s.setB v).a = s.a := rfl
@[simp] theorem State.setB_b (s : State) (v : Byte) : (s.setB v).b = v := rfl
@[simp] theorem State.setB_c (s : State) (v : Byte) : (s.setB v).c = s.c := rfl
@[simp] theorem State.setB_d (s : State) (v : Byte) : (s.setB v).d = s.d := rfl
@[simp] theorem State.setB_e (s : State) (v : Byte) : (s.setB v).e = s.e := rfl
@[simp] theorem State.setB_f (s : State) (v : Byte) : (s.setB v).f = s.f := rfl
@[simp] theorem State.setB_h (s : State) (v : Byte) : (s.setB v).h = s.h := rfl
@[simp] theorem State.setB_l (s : State) (v : Byte) : (s.setB v).l = s.l := rfl
@[simp] theorem State.setB_pc (s : State) (v : Byte) : (s.setB v).pc = s.pc := rfl
@[simp] theorem State.setB_sp (s : State) (v : Byte) : (s.setB v).sp = s.sp := rfl
@[simp] theorem State.setB_ime (s : State) (v : Byte) : (s.setB v).ime = s.ime := rfl
@[simp] theorem State.setB_lastClockT (s : State) (v : Byte) : (s.setB v).lastClockT = s.lastClockT := rfl
@[simp] theorem State.setB_lastClockM (s : State) (v : Byte) : (s.setB v).lastClockM = s.lastClockM := rfl
@[simp] theorem State.setB_mem (s : State) (v : Byte) : (s.setB v).mem = s.mem := rfl
@[simp] theorem State.setB_bus (s : State) (v : Byte) : (s.setB v).bus = s.bus := rfl
@[simp] theorem State.setB_accesses (s : State) (v : Byte) : (s.setB v).accesses = s.accesses := rfl
@[simp] theorem State.setB_unusedWarn (s : State) (v : Byte) : (s.setB v).unusedWarn = s.unusedWarn := rfl

@[simp] theorem State.setC_a (s : State) (v : Byte) : (s.setC v).a = s.a := rfl
@[simp] theorem State.setC_b (s : State) (v : Byte) : (s.setC v).b = s.b := rfl
@[simp] theorem State.setC_c (s : State) (v : Byte) : (s.setC v).c = v := rfl
@[simp] theorem State.setC_d (s : State) (v : Byte) : (s.setC v).d = s.d := rfl
@[simp] theorem State.setC_e (s : State) (v : Byte) : (s.setC v).e = s.e := rfl
@[simp] theorem State.setC_f (s : State) (v : Byte) : (s.setC v).f = s.f := rfl
@[simp] theorem State.setC_h (s : State) (v : Byte) : (s.setC v).h = s.h := rfl
@[simp] theorem State.setC_l (s : State) (v : Byte) : (s.setC v).l = s.l := rfl
@[simp] theorem State.setC_pc (s : State) (v : Byte) : (s.setC v).pc = s.pc := rfl
@[simp] theorem State.setC_sp (s : State) (v : Byte) : (s.setC v).sp = s.sp := rfl
@[simp] theorem State.setC_ime (s : State) (v : Byte) : (s.setC v).ime = s.ime := rfl
@[simp] theorem State.setC_lastClockT (s : State) (v : Byte) : (s.setC v).lastClockT = s.lastClockT := rfl
@[simp] theorem State.setC_lastClockM (s : State) (v : Byte) : (s.setC v).lastClockM = s.lastClockM := rfl
@[simp] theorem State.setC_mem (s : State) (v : Byte) : (s.setC v).mem = s.mem := rfl
@[simp] theorem State.setC_bus (s : State) (v : Byte) : (s.setC v).bus = s.bus := rfl
@[simp] theorem State.setC_accesses (s : State) (v : Byte) : (s.setC v).accesses = s.accesses := rfl
@[simp] theorem State.setC_unusedWarn (s : State) (v : Byte) : (s.setC v).unusedWarn = s.unusedWarn := rfl

@[simp] theorem State.setD_a (s : State) (v : Byte) : (s.setD v).a = s.a := rfl
@[simp] theorem State.setD_b (s : State) (v : Byte) : (s.setD v).b = s.b := rfl
@[simp] theorem State.setD_c (s : State) (v : Byte) : (s.setD v).c = s.c := rfl
@[simp] theorem State.setD_d (s : State) (v : Byte) : (s.setD v).d = v := rfl
@[simp] theorem State.setD_e (s : State) (v : Byte) : (s.setD v).e = s.e := rfl
@[simp] theorem State.setD_f (s : State) (v : Byte) : (s.setD v).f = s.f := rfl
@[simp] theorem State.setD_h (s : State) (v : Byte) : (s.setD v).h = s.h := rfl
@[simp] theorem State.setD_l (s : State) (v : Byte) : (s.setD v).l = s.l := rfl
@[simp] theorem State.setD_pc (s : State) (v : Byte) : (s.setD v).pc = s.pc := rfl
@[simp] theorem State.setD_sp (s : State) (v : Byte) : (s.setD v).sp = s.sp := rfl
@[simp] theorem State.setD_ime (s : State) (v : Byte) : (s.setD v).ime = s.ime := rfl
@[simp] theorem State.setD_lastClockT (s : State) (v : Byte) : (s.setD v).lastClockT = s.lastClockT := rfl
@[simp] theorem State.setD_lastClockM (s : State) (v : Byte) : (s.setD v).lastClockM = s.lastClockM := rfl
@[simp] theorem State.setD_mem (s : State) (v : Byte) : (s.setD v).mem = s.mem := rfl
@[simp] theorem State.setD_bus (s : State) (v : Byte) : (s.setD v).bus = s.bus := rfl
@[simp] theorem State.setD_accesses (s : State) (v : Byte) : (s.setD v).accesses = s.accesses := rfl
@[simp] theorem State.setD_unusedWarn (s : State) (v : Byte) : (s.setD v).unusedWarn = s.unusedWarn := rfl

@[simp] theorem State.setE_a (s : State) (v : Byte) : (s.setE v).a = s.a := rfl
@[simp] theorem State.setE_b (s : State) (v : Byte) : (s.setE v).b = s.b := rfl
@[simp] theorem State.setE_c (s : State) (v : Byte) : (s.setE v).c = s.c := rfl
@[simp] theorem State.setE_d (s : State) (v : Byte) : (s.setE v).d = s.d := rfl
@[simp] theorem State.setE_e (s : State) (v : Byte) : (s.setE v).e = v := rfl
@[simp] theorem State.setE_f (s : State) (v : Byte) : (s.setE v).f = s.f := rfl
@[simp] theorem State.setE_h (s : State) (v : Byte) : (s.setE v).h = s.h := rfl
@[simp] theorem State.setE_l (s : State) (v : Byte) : (s.setE v).l = s.l := rfl
@[simp] theorem State.setE_pc (s : State) (v : Byte) : (s.setE v).pc = s.pc := rfl
@[simp] theorem State.setE_sp (s : State) (v : Byte) : (s.setE v).sp = s.sp := rfl
@[simp] theorem State.setE_ime (s : State) (v : Byte) : (s.setE v).ime = s.ime := rfl
@[simp] theorem State.setE_lastClockT (s : State) (v : Byte) : (s.setE v).lastClockT = s.lastClockT := rfl
@[simp] theorem State.setE_lastClockM (s : State) (v : Byte) : (s.setE v).lastClockM = s.lastClockM := rfl
@[simp] theorem State.setE_mem (s : State) (v : Byte) : (s.setE v).mem = s.mem := rfl
@[simp] theorem State.setE_bus (s : State) (v : Byte) : (s.setE v).bus = s.bus := rfl
@[simp] theorem State.setE_accesses (s : State) (v : Byte) : (s.setE v).accesses = s.accesses := rfl
@[simp] theorem State.setE_unusedWarn (s : State) (v : Byte) : (s.setE v).unusedWarn = s.unusedWarn := rfl

@[simp] theorem State.setF_a (s : State) (v : Byte) : (s.setF v).a = s.a := rfl
@[simp] theorem State.setF_b (s : State) (v : Byte) : (s.setF v).b = s.b := rfl
@[simp] theorem State.setF_c (s : State) (v : Byte) : (s.setF v).c = s.c := rfl
@[simp] theorem State.setF_d (s : State) (v : Byte) : (s.setF v).d = s.d := rfl
@[simp] theorem State.setF_e (s : State) (v : Byte) : (s.setF v).e = s.e := rfl
@[simp] theorem State.setF_f (s : State) (v : Byte) : (s.setF v).f = v := rfl
@[simp] theorem State.setF_h (s : State) (v : Byte) : (s.setF v).h = s.h := rfl
@[simp] theorem State.setF_l (s : State) (v : Byte) : (s.setF v).l = s.l := rfl
@[simp] theorem State.setF_pc (s : State) (v : Byte) : (s.setF v).pc = s.pc := rfl
@[simp] theorem State.setF_sp (s : State) (v : Byte) : (s.setF v).sp = s.sp := rfl
@[simp] theorem State.setF_ime (s : State) (v : Byte) : (s.setF v).ime = s.ime := rfl
@[simp] theorem State.setF_lastClockT (s : State) (v : Byte) : (s.setF v).lastClockT = s.lastClockT := rfl
@[simp] theorem State.setF_lastClockM (s : State) (v : Byte) : (s.setF v).lastClockM = s.lastClockM := rfl
@[simp] theorem State.setF_mem (s : State) (v : Byte) : (s.setF v).mem = s.mem := rfl
@[simp] theorem State.setF_bus (s : State) (v : Byte) : (s.setF v).bus = s.bus := rfl
@[simp] theorem State.setF_accesses (s : State) (v : Byte) : (s.setF v).accesses = s.accesses := rfl
@[simp] theorem State.setF_unusedWarn (s : State) (v : Byte) : (s.setF v).unusedWarn = s.unusedWarn := rfl

@[simp] theorem State.setH_a (s : State) (v : Byte) : (s.setH v).a = s.a := rfl
@[simp] theorem State.setH_b (s : State) (v : Byte) : (s.setH v).b = s.b := rfl
@[simp] theorem State.setH_c (s : State) (v : Byte) : (s.setH v).c = s.c := rfl
@[simp] theorem State.setH_d (s : State) (v : Byte) : (s.setH v).d = s.d := rfl
@[simp] theorem State.setH_e (s : State) (v : Byte) : (s.setH v).e = s.e := rfl
@[simp] theorem State.setH_f (s : State) (v : Byte) : (s.setH v).f = s.f := rfl
@[simp] theorem State.setH_h (s : State) (v : Byte) : (s.setH v).h = v := rfl
@[simp] theorem State.setH_l (s : State) (v : Byte) : (s.setH v).l = s.l := rfl
@[simp] theorem State.setH_pc (s : State) (v : Byte) : (s.setH v).pc = s.pc := rfl
@[simp] theorem State.setH_sp (s : State) (v : Byte) : (s.setH v).sp = s.sp := rfl
@[simp] theorem State.setH_ime (s : State) (v : Byte) : (s.setH v).ime = s.ime := rfl
@[simp] theorem State.setH_lastClockT (s : State) (v : Byte) : (s.setH v).lastClockT = s.lastClockT := rfl
@[simp] theorem State.setH_lastClockM (s : State) (v : Byte) : (s.setH v).lastClockM = s.lastClockM := rfl
@[simp] theorem State.setH_mem (s : State) (v : Byte) : (s.setH v).mem = s.mem := rfl
@[simp] theorem State.setH_bus (s : State) (v : Byte) : (s.setH v).bus = s.bus := rfl
@[simp] theorem State.setH_accesses (s : State) (v : Byte) : (s.setH v).accesses = s.accesses := rfl
@[simp] theorem State.setH_unusedWarn (s : State) (v : Byte) : (s.setH v).unusedWarn = s.unusedWarn := rfl

@[simp] theorem State.setL_a (s : State) (v : Byte) : (s.setL v).a = s.a := rfl
@[simp] theorem State.setL_b (s : State) (v : Byte) : (s.setL v).b = s.b := rfl
@[simp] theorem State.setL_c (s : State) (v : Byte) : (s.setL v).c = s.c := rfl
@[simp] theorem State.setL_d (s : State) (v : Byte) : (s.setL v).d = s.d := rfl
@[simp] theorem State.setL_e (s : State) (v : Byte) : (s.setL v).e = s.e := rfl
@[simp] theorem State.setL_f (s : State) (v : Byte) : (s.setL v).f = s.f := rfl
@[simp] theorem State.setL_h (s : State) (v : Byte) : (s.setL v).h = s.h := rfl
@[simp] theorem State.setL_l (s : State) (v : Byte) : (s.setL v).l = v := rfl
@[simp] theorem State.setL_pc (s : State) (v : Byte) : (s.setL v).pc = s.pc := rfl
@[simp] theorem State.setL_sp (s : State) (v : Byte) : (s.setL v).sp = s.sp := rfl
@[simp] theorem State.setL_ime (s : State) (v : Byte) : (s.setL v).ime = s.ime := rfl
@[simp] theorem State.setL_lastClockT (s : State) (v : Byte) : (s.setL v).lastClockT = s.lastClockT := rfl
@[simp] theorem State.setL_lastClockM (s : State) (v : Byte) : (s.setL v).lastClockM = s.lastClockM := rfl
@[simp] theorem State.setL_mem (s : State) (v : Byte) : (s.setL v).mem = s.mem := rfl
@[simp] theorem State.setL_bus (s : State) (v : Byte) : (s.setL v).bus = s.bus := rfl
@[simp] theorem State.setL_accesses (s : State) (v : Byte) : (s.setL v).accesses = s.accesses := rfl
@[simp] theorem State.setL_unusedWarn (s : State) (v : Byte) : (s.setL v).unusedWarn = s.unusedWarn := rfl

@[simp] theorem State.setPC_a (s : State) (w : Word) : (s.setPC w).a = s.a := rfl
@[simp] theorem State.setPC_b (s : State) (w : Word) : (s.setPC w).b = s.b := rfl
@[simp] theorem State.setPC_c (s : State) (w : Word) : (s.setPC w).c = s.c := rfl
@[simp] theorem State.setPC_d (s : State) (w : Word) : (s.setPC w).d = s.d := rfl
@[simp] theorem State.setPC_e (s : State) (w : Word) : (s.setPC w).e = s.e := rfl
@[simp] theorem State.setPC_f (s : State) (w : Word) : (s.setPC w).f = s.f := rfl
@[simp] theorem State.setPC_h (s : State) (w : Word) : (s.setPC w).h = s.h := rfl
@[simp] theorem State.setPC_l (s : State) (w : Word) : (s.setPC w).l = s.l := rfl
@[simp] theorem State.setPC_pc (s : State) (w : Word) : (s.setPC w).pc = w := rfl
@[simp] theorem State.setPC_sp (s : State) (w : Word) : (s.setPC w).sp = s.sp := rfl
@[simp] theorem State.setPC_ime (s : State) (w : Word) : (s.setPC w).ime = s.ime := rfl
@[simp] theorem State.setPC_lastClockT (s : State) (w : Word) : (s.setPC w).lastClockT = s.lastClockT := rfl
@[simp] theorem State.setPC_lastClockM (s : State) (w : Word) : (s.setPC w).lastClockM = s.lastClockM := rfl
@[simp] theorem State.setPC_mem (s : State) (w : Word) : (s.setPC w).mem = s.mem := rfl
@[simp] theorem State.setPC_bus (s : State) (w : Word) : (s.setPC w).bus = s.bus := rfl
@[simp] theorem State.setPC_accesses (s : State) (w : Word) : (s.setPC w).accesses = s.accesses := rfl
@[simp] theorem State.setPC_unusedWarn (s : State) (w : Word) : (s.setPC w).unusedWarn = s.unusedWarn := rfl

@[simp] theorem State.setSP_a (s : State) (w : Word) : (s.setSP w).a = s.a := rfl
@[simp] theorem State.setSP_b (s : State) (w : Word) : (s.setSP w).b = s.b := rfl
@[simp] theorem State.setSP_c (s : State) (w : Word) : (s.setSP w).c = s.c := rfl
@[simp] theorem State.setSP_d (s : State) (w : Word) : (s.setSP w).d = s.d := rfl
@[simp] theorem State.setSP_e (s : State) (w : Word) : (s.setSP w).e = s.e := rfl
@[simp] theorem State.setSP_f (s : State) (w : Word) : (s.setSP w).f = s.f := rfl
@[simp] theorem State.setSP_h (s : State) (w : Word) : (s.setSP w).h = s.h := rfl
@[simp] theorem State.setSP_l (s : State) (w : Word) : (s.setSP w).l = s.l := rfl
@[simp] theorem State.setSP_pc (s : State) (w : Word) : (s.setSP w).pc = s.pc := rfl
@[simp] theorem State.setSP_sp (s : State) (w : Word) : (s.setSP w).sp = w := rfl
@[simp] theorem State.setSP_ime (s : State) (w : Word) : (s.setSP w).ime = s.ime := rfl
@[simp] theorem State.setSP_lastClockT (s : State) (w : Word) : (s.setSP w).lastClockT = s.lastClockT := rfl
@[simp] theorem State.setSP_lastClockM (s : State) (w : Word) : (s.setSP w).lastClockM = s.lastClockM := rfl
@[simp] theorem State.setSP_mem (s : State) (w : Word) : (s.setSP w).mem = s.mem := rfl
@[simp] theorem State.setSP_bus (s : State) (w : Word) : (s.setSP w).bus = s.bus := rfl
@[simp] theorem State.setSP_accesses (s : State) (w : Word) : (s.setSP w).accesses = s.accesses := rfl
@[simp] theorem State.setSP_unusedWarn (s : State) (w : Word) : (s.setSP w).unusedWarn = s.unusedWarn := rfl

@[simp] theorem State.setIME_a (s : State) (x : Bool) : (s.setIME x).a = s.a := rfl
@[simp] theorem State.setIME_b (s : State) (x : Bool) : (s.setIME x).b = s.b := rfl
@[simp] theorem State.setIME_c (s : State) (x : Bool) : (s.setIME x).c = s.c := rfl
@[simp] theorem State.setIME_d (s : State) (x : Bool) : (s.setIME x).d = s.d := rfl
@[simp] theorem State.setIME_e (s : State) (x : Bool) : (s.setIME x).e = s.e := rfl
@[simp] theorem State.setIME_f (s : State) (x : Bool) : (s.setIME x).f = s.f := rfl
@[simp] theorem State.setIME_h (s : State) (x : Bool) : (s.setIME x).h = s.h := rfl
@[simp] theorem State.setIME_l (s : State) (x : Bool) : (s.setIME x).l = s.l := rfl
@[simp] theorem State.setIME_pc (s : State) (x : Bool) : (s.setIME x).pc = s.pc := rfl
@[simp] theorem State.setIME_sp (s : State) (x : Bool) : (s.setIME x).sp = s.sp := rfl
@[simp] theorem State.setIME_ime (s : State) (x : Bool) : (s.setIME x).ime = x := rfl
@[simp] theorem State.setIME_lastClockT (s : State) (x : Bool) : (s.setIME x).lastClockT = s.lastClockT := rfl
@[simp] theorem State.setIME_lastClockM (s : State) (x : Bool) : (s.setIME x).lastClockM = s.lastClockM := rfl
@[simp] theorem State.setIME_mem (s : State) (x : Bool) : (s.setIME x).mem = s.mem := rfl
@[simp] theorem State.setIME_bus (s : State) (x : Bool) : (s.setIME x).bus = s.bus := rfl
@[simp] theorem State.setIME_accesses (s : State) (x : Bool) : (s.setIME x).accesses = s.accesses := rfl
@[simp] theorem State.setIME_unusedWarn (s : State) (x : Bool) : (s.setIME x).unusedWarn = s.unusedWarn := rfl

@[simp] theorem State.clk_a (s : State) (t : Nat) : (s.clk t).a = s.a := rfl
@[simp] theorem State.clk_b (s : State) (t : Nat) : (s.clk t).b = s.b := rfl
@[simp] theorem State.clk_c (s : State) (t : Nat) : (s.clk t).c = s.c := rfl
@[simp] theorem State.clk_d (s : State) (t : Nat) : (s.clk t).d = s.d := rfl
@[simp] theorem State.clk_e (s : State) (t : Nat) : (s.clk t).e = s.e := rfl
@[simp] theorem State.clk_f (s : State) (t : Nat) : (s.clk t).f = s.f := rfl
@[simp] theorem State.clk_h (s : State) (t : Nat) : (s.clk t).h = s.h := rfl
@[simp] theorem State.clk_l (s : State) (t : Nat) : (s.clk t).l = s.l := rfl
@[simp] theorem State.clk_pc (s : State) (t : Nat) : (s.clk t).pc = s.pc := rfl
@[simp] theorem State.clk_sp (s : State) (t : Nat) : (s.clk t).sp = s.sp := rfl
@[simp] theorem State.clk_ime (s : State) (t : Nat) : (s.clk t).ime = s.ime := rfl
@[simp] theorem State.clk_lastClockT (s : State) (t : Nat) : (s.clk t).lastClockT = t := rfl
@[simp] theorem State.clk_lastClockM (s : State) (t : Nat) : (s.clk t).lastClockM = t / 4 := rfl
@[simp] theorem State.clk_mem (s : State) (t : Nat) : (s.clk t).mem = s.mem := rfl
@[simp] theorem State.clk_bus (s : State) (t : Nat) : (s.clk t).bus = s.bus := rfl
@[simp] theorem State.clk_accesses (s : State) (t : Nat) : (s.clk t).accesses = s.accesses := rfl
@[simp] theorem State.clk_unusedWarn (s : State) (t : Nat) : (s.clk t).unusedWarn = s.unusedWarn := rfl

@[simp] theorem State.issued_a (s : State) (x : Access) : (s.issued x).a = s.a := rfl
@[simp] theorem State.issued_b (s : State) (x : Access) : (s.issued x).b = s.b := rfl
@[simp] theorem State.issued_c (s : State) (x : Access) : (s.issued x).c = s.c := rfl
@[simp] theorem State.issued_d (s : State) (x : Access) : (s.issued x).d = s.d := rfl
@[simp] theorem State.issued_e (s : State) (x : Access) : (s.issued x).e = s.e := rfl
@[simp] theorem State.issued_f (s : State) (x : Access) : (s.issued x).f = s.f := rfl
@[simp] theorem State.issued_h (s : State) (x : Access) : (s.issued x).h = s.h := rfl
@[simp] theorem State.issued_l (s : State) (x : Access) : (s.issued x).l = s.l := rfl
@[simp] theorem State.issued_pc (s : State) (x : Access) : (s.issued x).pc = s.pc := rfl
@[simp] theorem State.issued_sp (s : State) (x : Access) : (s.issued x).sp = s.sp := rfl
@[simp] theorem State.issued_ime (s : State) (x : Access) : (s.issued x).ime = s.ime := rfl
@[simp] theorem State.issued_lastClockT (s : State) (x : Access) : (s.issued x).lastClockT = s.lastClockT := rfl
@[simp] theorem State.issued_lastClockM (s : State) (x : Access) : (s.issued x).lastClockM = s.lastClockM := rfl
@[simp] theorem State.issued_mem (s : State) (x : Access) : (s.issued x).mem = s.mem := rfl
@[simp] theorem State.issued_bus (s : State) (x : Access) : (s.issued x).bus = s.bus.after x := rfl
@[simp] theorem State.issued_accesses (s : State) (x : Access) : (s.issued x).accesses = s.accesses ++ [x] := rfl
@[simp] theorem State.issued_unusedWarn (s : State) (x : Access) : (s.issued x).unusedWarn = s.unusedWarn := rfl

@[simp] theorem State.writeByte_a (s : State) (a : Word) (v : Byte) : (s.writeByte a v).a = s.a := rfl
@[simp] theorem State.writeByte_b (s : State) (a : Word) (v : Byte) : (s.writeByte a v).b = s.b := rfl
@[simp] theorem State.writeByte_c (s : State) (a : Word) (v : Byte) : (s.writeByte a v).c = s.c := rfl
@[simp] theorem State.writeByte_d (s : State) (a : Word) (v : Byte) : (s.writeByte a v).d = s.d := rfl
@[simp] theorem State.writeByte_e (s : State) (a : Word) (v : Byte) : (s.writeByte a v).e = s.e := rfl
@[simp] theorem State.writeByte_f (s : State) (a : Word) (v : Byte) : (s.writeByte a v).f = s.f := rfl
@[simp] theorem State.writeByte_h (s : State) (a : Word) (v : Byte) : (s.writeByte a v).h = s.h := rfl
@[simp] theorem State.writeByte_l (s : State) (a : Word) (v : Byte) : (s.writeByte a v).l = s.l := rfl
@[simp] theorem State.writeByte_pc (s : State) (a : Word) (v : Byte) : (s.writeByte a v).pc = s.pc := rfl
@[simp] theorem State.writeByte_sp (s : State) (a : Word) (v : Byte) : (s.writeByte a v).sp = s.sp := rfl
@[simp] theorem State.writeByte_ime (s : State) (a : Word) (v : Byte) : (s.writeByte a v).ime = s.ime := rfl
@[simp] theorem State.writeByte_lastClockT (s : State) (a : Word) (v : Byte) : (s.writeByte a v).lastClockT = s.lastClockT := rfl
@[simp] theorem State.writeByte_lastClockM (s : State) (a : Word) (v : Byte) : (s.writeByte a v).lastClockM = s.lastClockM := rfl
@[simp] theorem State.writeByte_mem (s : State) (a : Word) (v : Byte) : (s.writeByte a v).mem = if s.accepts a then Memory.write s.mem a.toNat v else s.mem := rfl
@[simp] theorem State.writeByte_bus (s : State) (a : Word) (v : Byte) : (s.writeByte a v).bus = s.bus.after (.write a v) := rfl
@[simp] theorem State.writeByte_accesses (s : State) (a : Word) (v : Byte) : (s.writeByte a v).accesses = s.accesses ++ [.write a v] := rfl
@[simp] theorem State.writeByte_unusedWarn (s : State) (a : Word) (v : Byte) : (s.writeByte a v).unusedWarn = s.unusedWarn := rfl

@[simp] theorem State.setFlag_a (s : State) (fl : Flag) (v : Bool) : (s.setFlag fl v).a = s.a := rfl
@[simp] theorem State.setFlag_b (s : State) (fl : Flag) (v : Bool) : (s.setFlag fl v).b = s.b := rfl
@[simp] theorem State.setFlag_c (s : State) (fl : Flag) (v : Bool) : (s.setFlag fl v).c = s.c := rfl
@[simp] theorem State.setFlag_d (s : State) (fl : Flag) (v : Bool) : (s.setFlag fl v).d = s.d := rfl
@[simp] theorem State.setFlag_e (s : State) (fl : Flag) (v : Bool) : (s.setFlag fl v).e = s.e := rfl
@[simp] theorem State.setFlag_f (s : State) (fl : Flag) (v : Bool) : (s.setFlag fl v).f = putFlag fl v s.f := rfl
@[simp] theorem State.setFlag_h (s : State) (fl : Flag) (v : Bool) : (s.setFlag fl v).h = s.h := rfl
@[simp] theorem State.setFlag_l (s : State) (fl : Flag) (v : Bool) : (s.setFlag fl v).l = s.l := rfl
@[simp] theorem State.setFlag_pc (s : State) (fl : Flag) (v : Bool) : (s.setFlag fl v).pc = s.pc := rfl
@[simp] theorem State.setFlag_sp (s : State) (fl : Flag) (v : Bool) : (s.setFlag fl v).sp = s.sp := rfl
@[simp] theorem State.setFlag_ime (s : State) (fl : Flag) (v : Bool) : (s.setFlag fl v).ime = s.ime := rfl
@[simp] theorem State.setFlag_lastClockT (s : State) (fl : Flag) (v : Bool) : (s.setFlag fl v).lastClockT = s.lastClockT := rfl
@[simp] theorem State.setFlag_lastClockM (s : State) (fl : Flag) (v : Bool) : (s.setFlag fl v).lastClockM = s.lastClockM := rfl
@[simp] theorem State.setFlag_mem (s : State) (fl : Flag) (v : Bool) : (s.setFlag fl v).mem = s.mem := rfl
@[simp] theorem State.setFlag_bus (s : State) (fl : Flag) (v : Bool) : (s.setFlag fl v).bus = s.bus := rfl
@[simp] theorem State.setFlag_accesses (s : State) (fl : Flag) (v : Bool) : (s.setFlag fl v).accesses = s.accesses := rfl
@[simp] theorem State.setFlag_unusedWarn (s : State) (fl : Flag) (v : Bool) : (s.setFlag fl v).unusedWarn = s.unusedWarn := rfl

@[simp] theorem State.beginStep_a (s : State) : (s.beginStep).a = s.a := rfl
@[simp] theorem State.beginStep_b (s : State) : (s.beginStep).b = s.b := rfl
@[simp] theorem State.beginStep_c (s : State) : (s.beginStep).c = s.c := rfl
@[simp] theorem State.beginStep_d (s : State) : (s.beginStep).d = s.d := rfl
@[simp] theorem State.beginStep_e (s : State) : (s.beginStep).e = s.e := rfl
@[simp] theorem State.beginStep_f (s : State) : (s.beginStep).f = s.f := rfl
@[simp] theorem State.beginStep_h (s : State) : (s.beginStep).h = s.h := rfl
@[simp] theorem State.beginStep_l (s : State) : (s.beginStep).l = s.l := rfl
@[simp] theorem State.beginStep_pc (s : State) : (s.beginStep).pc = s.pc := rfl
@[simp] theorem State.beginStep_sp (s : State) : (s.beginStep).sp = s.sp := rfl
@[simp] theorem State.beginStep_ime (s : State) : (s.beginStep).ime = s.ime := rfl
@[simp] theorem State.beginStep_lastClockT (s : State) : (s.beginStep).lastClockT = s.lastClockT := rfl
@[simp] theorem State.beginStep_lastClockM (s : State) : (s.beginStep).lastClockM = s.lastClockM := rfl
@[simp] theorem State.beginStep_mem (s : State) : (s.beginStep).mem = s.mem := rfl
@[simp] theorem State.beginStep_bus (s : State) : (s.beginStep).bus = s.bus := rfl
@[simp] theorem State.beginStep_accesses (s : State) : (s.beginStep).accesses = [] := rfl
@[simp] theorem State.beginStep_unusedWarn (s : State) : (s.beginStep).unusedWarn = false := rfl

@[simp] theorem State.place_a (s : State) (a : Word) (v : Byte) : (s.place a v).a = s.a := rfl
@[simp] theorem State.place_b (s : State) (a : Word) (v : Byte) : (s.place a v).b = s.b := rfl
@[simp] theorem State.place_c (s : State) (a : Word) (v : Byte) : (s.place a v).c = s.c := rfl
@[simp] theorem State.place_d (s : State) (a : Word) (v : Byte) : (s.place a v).d = s.d := rfl
@[simp] theorem State.place_e (s : State) (a : Word) (v : Byte) : (s.place a v).e = s.e := rfl
@[simp] theorem State.place_f (s : State) (a : Word) (v : Byte) : (s.place a v).f = s.f := rfl
@[simp] theorem State.place_h (s : State) (a : Word) (v : Byte) : (s.place a v).h = s.h := rfl
@[simp] theorem State.place_l (s : State) (a : Word) (v : Byte) : (s.place a v).l = s.l := rfl
@[simp] theorem State.place_pc (s : State) (a : Word) (v : Byte) : (s.place a v).pc = s.pc := rfl
@[simp] theorem State.place_sp (s : State) (a : Word) (v : Byte) : (s.place a v).sp = s.sp := rfl
@[simp] theorem State.place_ime (s : State) (a : Word) (v : Byte) : (s.place a v).ime = s.ime := rfl
@[simp] theorem State.place_lastClockT (s : State) (a : Word) (v : Byte) : (s.place a v).lastClockT = s.lastClockT := rfl
@[simp] theorem State.place_lastClockM (s : State) (a : Word) (v : Byte) : (s.place a v).lastClockM = s.lastClockM := rfl
@[simp] theorem State.place_mem (s : State) (a : Word) (v : Byte) : (s.place a v).mem = Memory.write s.mem a.toNat v := rfl
@[simp] theorem State.place_bus (s : State) (a : Word) (v : Byte) : (s.place a v).bus = s.bus := rfl
@[simp] theorem State.place_accesses (s : State) (a : Word) (v : Byte) : (s.place a v).accesses = s.accesses := rfl
@[simp] theorem State.place_unusedWarn (s : State) (a : Word) (v : Byte) : (s.place a v).unusedWarn = s.unusedWarn := rfl

end Sys2Proof.Machine
end

