-- ==== Sys2Proof/Laws/Bus.lean ====
section
/-! SUPPORT. What an access does to the bus, and what the bus answers: said once, so that later proofs do not unfold the bus. -/
namespace Sys2Proof.Machine

/-! An access changes neither which addresses are plain memory nor which of them ignore writes. -/

@[simp] theorem Bus.after_ram (b : Bus) (x : Access) : (b.after x).ram = b.ram := by
  unfold Bus.after
  split <;> rfl

@[simp] theorem Bus.after_nonWritable (b : Bus) (x : Access) : (b.after x).nonWritable = b.nonWritable := by
  unfold Bus.after
  split <;> rfl

@[simp] theorem Bus.after_map (b : Bus) (x : Access) : (b.after x).map = b.map := by simp [Bus.map]

@[simp] theorem Bus.after_isRam (b : Bus) (x : Access) (a : Word) : (b.after x).isRam a = b.isRam a := by
  simp [Bus.isRam]

@[simp] theorem Bus.after_accepts (b : Bus) (x : Access) (a : Word) : (b.after x).accepts a = b.accepts a := by
  simp [Bus.accepts]

/-- Two buses with the same map accept the same writes. -/
theorem Bus.accepts_congr {b c : Bus} (h : c.map = b.map) (a : Word) : c.accepts a = b.accepts a := by
  simp only [Bus.map, Prod.mk.injEq] at h
  simp [Bus.accepts, Bus.isRam, h.1, h.2]

theorem Bus.isRam_congr {b c : Bus} (h : c.map = b.map) (a : Word) : c.isRam a = b.isRam a := by
  simp only [Bus.map, Prod.mk.injEq] at h
  simp [Bus.isRam, h.1]

/-- The bus takes a write only at plain memory. -/
theorem Bus.isRam_of_accepts {b : Bus} {a : Word} (h : b.accepts a = true) : b.isRam a = true := by
  simp only [Bus.accepts, Bus.isRam, Bool.and_eq_true] at h ⊢
  exact h.1

/-! Several accesses. -/

@[simp] theorem Bus.afterAll_nil (b : Bus) : b.afterAll [] = b := rfl

@[simp] theorem Bus.afterAll_cons (b : Bus) (x : Access) (xs : List Access) :
    b.afterAll (x :: xs) = (b.after x).afterAll xs := rfl

@[simp] theorem Bus.afterAll_append (b : Bus) (xs ys : List Access) :
    b.afterAll (xs ++ ys) = (b.afterAll xs).afterAll ys := List.foldl_append

@[simp] theorem Bus.afterAll_map (b : Bus) (xs : List Access) : (b.afterAll xs).map = b.map := by
  induction xs generalizing b with
  | nil => rfl
  | cons x xs ih => rw [Bus.afterAll_cons, ih, Bus.after_map]

/-! What the bus answers (20_memory.md R57). -/

theorem Bus.answer_ram (b : Bus) (mem : Memory) (a : Word) (h : b.isRam a = true) :
    b.answer mem a = Memory.read mem a.toNat := by simp [Bus.answer, h]

theorem Bus.answer_given (b : Bus) (mem : Memory) (a : Word) (v : Byte) (vs : List Byte) (h : b.isRam a = false)
    (hv : b.answers = v :: vs) : b.answer mem a = v := by simp [Bus.answer, h, hv]

theorem Bus.answer_free (b : Bus) (mem : Memory) (a : Word) (h : b.isRam a = false) (hv : b.answers = []) :
    b.answer mem a = Config.busAnswer b.history a := by simp [Bus.answer, h, hv]

/-- An access to plain memory leaves the bus as it is. -/
theorem Bus.after_of_isRam (b : Bus) (x : Access) (h : b.isRam x.addr = true) : b.after x = b := by
  simp [Bus.after, h]

/-- What the bus answers does not depend on which writes it ignores. -/
theorem Bus.answer_nonWritable (b : Bus) (rs : List AddrRange) (mem : Memory) (a : Word) :
    ({ b with nonWritable := rs } : Bus).answer mem a = b.answer mem a := rfl

theorem Bus.after_of_nonWritable (b : Bus) (rs : List AddrRange) (x : Access) :
    ({ b with nonWritable := rs } : Bus).after x = { b.after x with nonWritable := rs } := by
  unfold Bus.after
  split <;> rename_i h <;> simp only [Bus.isRam] at h ⊢ <;> simp [h]

end Sys2Proof.Machine
end

