-- ==== Sys2Proof/Laws/Decode.lean ====
section
/-! SUPPORT. The byte and word helpers of the decoder, and what a form's instruction is a form of. -/
namespace Sys2Proof

theorem mkWord_toNat (hi lo : Byte) : (mkWord hi lo).toNat = hi.toNat * 256 + lo.toNat := by
  have h : ∀ hi lo : Byte, (hi ++ lo : Word).toNat = hi.toNat <<< 8 ||| lo.toNat := fun hi lo => BitVec.toNat_append hi lo
  have hl := lo.isLt
  rw [mkWord, h, Nat.shiftLeft_eq, Nat.mul_comm]
  have := Nat.two_pow_add_eq_or_of_lt (i := 8) (b := lo.toNat) (by omega) hi.toNat
  omega

theorem lo8_toNat (w : Word) : (lo8 w).toNat = w.toNat % 256 := by
  simp [lo8, BitVec.extractLsb'_toNat]

theorem hi8_toNat (w : Word) : (hi8 w).toNat = w.toNat / 256 := by
  have hw := w.isLt
  simp only [hi8, BitVec.extractLsb'_toNat, Nat.shiftRight_eq_div_pow]
  omega

/-- A word is its two bytes. -/
@[simp] theorem mkWord_hi8_lo8 (w : Word) : mkWord (hi8 w) (lo8 w) = w := by
  apply BitVec.eq_of_toNat_eq
  rw [mkWord_toNat, hi8_toNat, lo8_toNat]
  omega

@[simp] theorem lo8_mkWord (hi lo : Byte) : lo8 (mkWord hi lo) = lo := by
  have hl := lo.isLt
  apply BitVec.eq_of_toNat_eq
  rw [lo8_toNat, mkWord_toNat]
  omega

@[simp] theorem hi8_mkWord (hi lo : Byte) : hi8 (mkWord hi lo) = hi := by
  have hl := lo.isLt
  apply BitVec.eq_of_toNat_eq
  rw [hi8_toNat, mkWord_toNat]
  omega

theorem mkWord_inj (hi lo hi' lo' : Byte) : mkWord hi lo = mkWord hi' lo' ↔ hi = hi' ∧ lo = lo' := by
  constructor
  · intro h
    exact ⟨by rw [← hi8_mkWord hi lo, h, hi8_mkWord], by rw [← lo8_mkWord hi lo, h, lo8_mkWord]⟩
  · rintro ⟨rfl, rfl⟩
    rfl

/-- The displacement byte, read as two's complement (00_scope.md R7). -/
theorem sext16_toInt (b : Byte) : (sext16 b).toInt = b.toInt := by
  revert b
  decide

end Sys2Proof
end

