-- ==== Sys2Proof/Laws/PerInstr.lean ====
section
/-! SUPPORT. The laws stated of every instruction, one lemma per constructor. -/
namespace Sys2Proof.Laws

/-- An instruction is the instruction of its form, so a claim about every form is a claim about every instruction. -/
def FormOfInstr.Statement (i : Instr) : Prop := i.form.instr = i

theorem FormOfInstr.nop : FormOfInstr.Statement .nop := rfl
theorem FormOfInstr.ld_BC_d16 (d16 : Word) : FormOfInstr.Statement (.ld_BC_d16 d16) := rfl
theorem FormOfInstr.ld_atBC_A : FormOfInstr.Statement .ld_atBC_A := rfl
theorem FormOfInstr.inc_BC : FormOfInstr.Statement .inc_BC := rfl
theorem FormOfInstr.inc_B : FormOfInstr.Statement .inc_B := rfl
theorem FormOfInstr.dec_B : FormOfInstr.Statement .dec_B := rfl
theorem FormOfInstr.ld_B_d8 (d8 : Byte) : FormOfInstr.Statement (.ld_B_d8 d8) := rfl
theorem FormOfInstr.rlca : FormOfInstr.Statement .rlca := rfl
theorem FormOfInstr.ld_atA16_SP (a16 : Word) : FormOfInstr.Statement (.ld_atA16_SP a16) := rfl
theorem FormOfInstr.add_HL_BC : FormOfInstr.Statement .add_HL_BC := rfl
theorem FormOfInstr.ld_A_atBC : FormOfInstr.Statement .ld_A_atBC := rfl
theorem FormOfInstr.dec_BC : FormOfInstr.Statement .dec_BC := rfl
theorem FormOfInstr.inc_C : FormOfInstr.Statement .inc_C := rfl
theorem FormOfInstr.dec_C : FormOfInstr.Statement .dec_C := rfl
theorem FormOfInstr.ld_C_d8 (d8 : Byte) : FormOfInstr.Statement (.ld_C_d8 d8) := rfl
theorem FormOfInstr.rrca : FormOfInstr.Statement .rrca := rfl
theorem FormOfInstr.stop : FormOfInstr.Statement .stop := rfl
theorem FormOfInstr.ld_DE_d16 (d16 : Word) : FormOfInstr.Statement (.ld_DE_d16 d16) := rfl
theorem FormOfInstr.ld_atDE_A : FormOfInstr.Statement .ld_atDE_A := rfl
theorem FormOfInstr.inc_DE : FormOfInstr.Statement .inc_DE := rfl
theorem FormOfInstr.inc_D : FormOfInstr.Statement .inc_D := rfl
theorem FormOfInstr.dec_D : FormOfInstr.Statement .dec_D := rfl
theorem FormOfInstr.ld_D_d8 (d8 : Byte) : FormOfInstr.Statement (.ld_D_d8 d8) := rfl
theorem FormOfInstr.rla : FormOfInstr.Statement .rla := rfl
theorem FormOfInstr.jr_r8 (r8 : Byte) : FormOfInstr.Statement (.jr_r8 r8) := rfl
theorem FormOfInstr.add_HL_DE : FormOfInstr.Statement .add_HL_DE := rfl
theorem FormOfInstr.ld_A_atDE : FormOfInstr.Statement .ld_A_atDE := rfl
theorem FormOfInstr.dec_DE : FormOfInstr.Statement .dec_DE := rfl
theorem FormOfInstr.inc_E : FormOfInstr.Statement .inc_E := rfl
theorem FormOfInstr.dec_E : FormOfInstr.Statement .dec_E := rfl
theorem FormOfInstr.ld_E_d8 (d8 : Byte) : FormOfInstr.Statement (.ld_E_d8 d8) := rfl
theorem FormOfInstr.rra : FormOfInstr.Statement .rra := rfl
theorem FormOfInstr.jr_NZ_r8 (r8 : Byte) : FormOfInstr.Statement (.jr_NZ_r8 r8) := rfl
theorem FormOfInstr.ld_HL_d16 (d16 : Word) : FormOfInstr.Statement (.ld_HL_d16 d16) := rfl
theorem FormOfInstr.ld_atHLinc_A : FormOfInstr.Statement .ld_atHLinc_A := rfl
theorem FormOfInstr.inc_HL : FormOfInstr.Statement .inc_HL := rfl
theorem FormOfInstr.inc_H : FormOfInstr.Statement .inc_H := rfl
theorem FormOfInstr.dec_H : FormOfInstr.Statement .dec_H := rfl
theorem FormOfInstr.ld_H_d8 (d8 : Byte) : FormOfInstr.Statement (.ld_H_d8 d8) := rfl
theorem FormOfInstr.daa : FormOfInstr.Statement .daa := rfl
theorem FormOfInstr.jr_Z_r8 (r8 : Byte) : FormOfInstr.Statement (.jr_Z_r8 r8) := rfl
theorem FormOfInstr.add_HL_HL : FormOfInstr.Statement .add_HL_HL := rfl
theorem FormOfInstr.ld_A_atHLinc : FormOfInstr.Statement .ld_A_atHLinc := rfl
theorem FormOfInstr.dec_HL : FormOfInstr.Statement .dec_HL := rfl
theorem FormOfInstr.inc_L : FormOfInstr.Statement .inc_L := rfl
theorem FormOfInstr.dec_L : FormOfInstr.Statement .dec_L := rfl
theorem FormOfInstr.ld_L_d8 (d8 : Byte) : FormOfInstr.Statement (.ld_L_d8 d8) := rfl
theorem FormOfInstr.cpl : FormOfInstr.Statement .cpl := rfl
theorem FormOfInstr.jr_NC_r8 (r8 : Byte) : FormOfInstr.Statement (.jr_NC_r8 r8) := rfl
theorem FormOfInstr.ld_SP_d16 (d16 : Word) : FormOfInstr.Statement (.ld_SP_d16 d16) := rfl
theorem FormOfInstr.ld_atHLdec_A : FormOfInstr.Statement .ld_atHLdec_A := rfl
theorem FormOfInstr.inc_SP : FormOfInstr.Statement .inc_SP := rfl
theorem FormOfInstr.inc_atHL : FormOfInstr.Statement .inc_atHL := rfl
theorem FormOfInstr.dec_atHL : FormOfInstr.Statement .dec_atHL := rfl
theorem FormOfInstr.ld_atHL_d8 (d8 : Byte) : FormOfInstr.Statement (.ld_atHL_d8 d8) := rfl
theorem FormOfInstr.scf : FormOfInstr.Statement .scf := rfl
theorem FormOfInstr.jr_C_r8 (r8 : Byte) : FormOfInstr.Statement (.jr_C_r8 r8) := rfl
theorem FormOfInstr.add_HL_SP : FormOfInstr.Statement .add_HL_SP := rfl
theorem FormOfInstr.ld_A_atHLdec : FormOfInstr.Statement .ld_A_atHLdec := rfl
theorem FormOfInstr.dec_SP : FormOfInstr.Statement .dec_SP := rfl
theorem FormOfInstr.inc_A : FormOfInstr.Statement .inc_A := rfl
theorem FormOfInstr.dec_A : FormOfInstr.Statement .dec_A := rfl
theorem FormOfInstr.ld_A_d8 (d8 : Byte) : FormOfInstr.Statement (.ld_A_d8 d8) := rfl
theorem FormOfInstr.ccf : FormOfInstr.Statement .ccf := rfl
theorem FormOfInstr.ld_B_B : FormOfInstr.Statement .ld_B_B := rfl
theorem FormOfInstr.ld_B_C : FormOfInstr.Statement .ld_B_C := rfl
theorem FormOfInstr.ld_B_D : FormOfInstr.Statement .ld_B_D := rfl
theorem FormOfInstr.ld_B_E : FormOfInstr.Statement .ld_B_E := rfl
theorem FormOfInstr.ld_B_H : FormOfInstr.Statement .ld_B_H := rfl
theorem FormOfInstr.ld_B_L : FormOfInstr.Statement .ld_B_L := rfl
theorem FormOfInstr.ld_B_atHL : FormOfInstr.Statement .ld_B_atHL := rfl
theorem FormOfInstr.ld_B_A : FormOfInstr.Statement .ld_B_A := rfl
theorem FormOfInstr.ld_C_B : FormOfInstr.Statement .ld_C_B := rfl
theorem FormOfInstr.ld_C_C : FormOfInstr.Statement .ld_C_C := rfl
theorem FormOfInstr.ld_C_D : FormOfInstr.Statement .ld_C_D := rfl
theorem FormOfInstr.ld_C_E : FormOfInstr.Statement .ld_C_E := rfl
theorem FormOfInstr.ld_C_H : FormOfInstr.Statement .ld_C_H := rfl
theorem FormOfInstr.ld_C_L : FormOfInstr.Statement .ld_C_L := rfl
theorem FormOfInstr.ld_C_atHL : FormOfInstr.Statement .ld_C_atHL := rfl
theorem FormOfInstr.ld_C_A : FormOfInstr.Statement .ld_C_A := rfl
theorem FormOfInstr.ld_D_B : FormOfInstr.Statement .ld_D_B := rfl
theorem FormOfInstr.ld_D_C : FormOfInstr.Statement .ld_D_C := rfl
theorem FormOfInstr.ld_D_D : FormOfInstr.Statement .ld_D_D := rfl
theorem FormOfInstr.ld_D_E : FormOfInstr.Statement .ld_D_E := rfl
theorem FormOfInstr.ld_D_H : FormOfInstr.Statement .ld_D_H := rfl
theorem FormOfInstr.ld_D_L : FormOfInstr.Statement .ld_D_L := rfl
theorem FormOfInstr.ld_D_atHL : FormOfInstr.Statement .ld_D_atHL := rfl
theorem FormOfInstr.ld_D_A : FormOfInstr.Statement .ld_D_A := rfl
theorem FormOfInstr.ld_E_B : FormOfInstr.Statement .ld_E_B := rfl
theorem FormOfInstr.ld_E_C : FormOfInstr.Statement .ld_E_C := rfl
theorem FormOfInstr.ld_E_D : FormOfInstr.Statement .ld_E_D := rfl
theorem FormOfInstr.ld_E_E : FormOfInstr.Statement .ld_E_E := rfl
theorem FormOfInstr.ld_E_H : FormOfInstr.Statement .ld_E_H := rfl
theorem FormOfInstr.ld_E_L : FormOfInstr.Statement .ld_E_L := rfl
theorem FormOfInstr.ld_E_atHL : FormOfInstr.Statement .ld_E_atHL := rfl
theorem FormOfInstr.ld_E_A : FormOfInstr.Statement .ld_E_A := rfl
theorem FormOfInstr.ld_H_B : FormOfInstr.Statement .ld_H_B := rfl
theorem FormOfInstr.ld_H_C : FormOfInstr.Statement .ld_H_C := rfl
theorem FormOfInstr.ld_H_D : FormOfInstr.Statement .ld_H_D := rfl
theorem FormOfInstr.ld_H_E : FormOfInstr.Statement .ld_H_E := rfl
theorem FormOfInstr.ld_H_H : FormOfInstr.Statement .ld_H_H := rfl
theorem FormOfInstr.ld_H_L : FormOfInstr.Statement .ld_H_L := rfl
theorem FormOfInstr.ld_H_atHL : FormOfInstr.Statement .ld_H_atHL := rfl
theorem FormOfInstr.ld_H_A : FormOfInstr.Statement .ld_H_A := rfl
theorem FormOfInstr.ld_L_B : FormOfInstr.Statement .ld_L_B := rfl
theorem FormOfInstr.ld_L_C : FormOfInstr.Statement .ld_L_C := rfl
theorem FormOfInstr.ld_L_D : FormOfInstr.Statement .ld_L_D := rfl
theorem FormOfInstr.ld_L_E : FormOfInstr.Statement .ld_L_E := rfl
theorem FormOfInstr.ld_L_H : FormOfInstr.Statement .ld_L_H := rfl
theorem FormOfInstr.ld_L_L : FormOfInstr.Statement .ld_L_L := rfl
theorem FormOfInstr.ld_L_atHL : FormOfInstr.Statement .ld_L_atHL := rfl
theorem FormOfInstr.ld_L_A : FormOfInstr.Statement .ld_L_A := rfl
theorem FormOfInstr.ld_atHL_B : FormOfInstr.Statement .ld_atHL_B := rfl
theorem FormOfInstr.ld_atHL_C : FormOfInstr.Statement .ld_atHL_C := rfl
theorem FormOfInstr.ld_atHL_D : FormOfInstr.Statement .ld_atHL_D := rfl
theorem FormOfInstr.ld_atHL_E : FormOfInstr.Statement .ld_atHL_E := rfl
theorem FormOfInstr.ld_atHL_H : FormOfInstr.Statement .ld_atHL_H := rfl
theorem FormOfInstr.ld_atHL_L : FormOfInstr.Statement .ld_atHL_L := rfl
theorem FormOfInstr.halt : FormOfInstr.Statement .halt := rfl
theorem FormOfInstr.ld_atHL_A : FormOfInstr.Statement .ld_atHL_A := rfl
theorem FormOfInstr.ld_A_B : FormOfInstr.Statement .ld_A_B := rfl
theorem FormOfInstr.ld_A_C : FormOfInstr.Statement .ld_A_C := rfl
theorem FormOfInstr.ld_A_D : FormOfInstr.Statement .ld_A_D := rfl
theorem FormOfInstr.ld_A_E : FormOfInstr.Statement .ld_A_E := rfl
theorem FormOfInstr.ld_A_H : FormOfInstr.Statement .ld_A_H := rfl
theorem FormOfInstr.ld_A_L : FormOfInstr.Statement .ld_A_L := rfl
theorem FormOfInstr.ld_A_atHL : FormOfInstr.Statement .ld_A_atHL := rfl
theorem FormOfInstr.ld_A_A : FormOfInstr.Statement .ld_A_A := rfl
theorem FormOfInstr.add_A_B : FormOfInstr.Statement .add_A_B := rfl
theorem FormOfInstr.add_A_C : FormOfInstr.Statement .add_A_C := rfl
theorem FormOfInstr.add_A_D : FormOfInstr.Statement .add_A_D := rfl
theorem FormOfInstr.add_A_E : FormOfInstr.Statement .add_A_E := rfl
theorem FormOfInstr.add_A_H : FormOfInstr.Statement .add_A_H := rfl
theorem FormOfInstr.add_A_L : FormOfInstr.Statement .add_A_L := rfl
theorem FormOfInstr.add_A_atHL : FormOfInstr.Statement .add_A_atHL := rfl
theorem FormOfInstr.add_A_A : FormOfInstr.Statement .add_A_A := rfl
theorem FormOfInstr.adc_A_B : FormOfInstr.Statement .adc_A_B := rfl
theorem FormOfInstr.adc_A_C : FormOfInstr.Statement .adc_A_C := rfl
theorem FormOfInstr.adc_A_D : FormOfInstr.Statement .adc_A_D := rfl
theorem FormOfInstr.adc_A_E : FormOfInstr.Statement .adc_A_E := rfl
theorem FormOfInstr.adc_A_H : FormOfInstr.Statement .adc_A_H := rfl
theorem FormOfInstr.adc_A_L : FormOfInstr.Statement .adc_A_L := rfl
theorem FormOfInstr.adc_A_atHL : FormOfInstr.Statement .adc_A_atHL := rfl
theorem FormOfInstr.adc_A_A : FormOfInstr.Statement .adc_A_A := rfl
theorem FormOfInstr.sub_A_B : FormOfInstr.Statement .sub_A_B := rfl
theorem FormOfInstr.sub_A_C : FormOfInstr.Statement .sub_A_C := rfl
theorem FormOfInstr.sub_A_D : FormOfInstr.Statement .sub_A_D := rfl
theorem FormOfInstr.sub_A_E : FormOfInstr.Statement .sub_A_E := rfl
theorem FormOfInstr.sub_A_H : FormOfInstr.Statement .sub_A_H := rfl
theorem FormOfInstr.sub_A_L : FormOfInstr.Statement .sub_A_L := rfl
theorem FormOfInstr.sub_A_atHL : FormOfInstr.Statement .sub_A_atHL := rfl
theorem FormOfInstr.sub_A_A : FormOfInstr.Statement .sub_A_A := rfl
theorem FormOfInstr.sbc_A_B : FormOfInstr.Statement .sbc_A_B := rfl
theorem FormOfInstr.sbc_A_C : FormOfInstr.Statement .sbc_A_C := rfl
theorem FormOfInstr.sbc_A_D : FormOfInstr.Statement .sbc_A_D := rfl
theorem FormOfInstr.sbc_A_E : FormOfInstr.Statement .sbc_A_E := rfl
theorem FormOfInstr.sbc_A_H : FormOfInstr.Statement .sbc_A_H := rfl
theorem FormOfInstr.sbc_A_L : FormOfInstr.Statement .sbc_A_L := rfl
theorem FormOfInstr.sbc_A_atHL : FormOfInstr.Statement .sbc_A_atHL := rfl
theorem FormOfInstr.sbc_A_A : FormOfInstr.Statement .sbc_A_A := rfl
theorem FormOfInstr.and_A_B : FormOfInstr.Statement .and_A_B := rfl
theorem FormOfInstr.and_A_C : FormOfInstr.Statement .and_A_C := rfl
theorem FormOfInstr.and_A_D : FormOfInstr.Statement .and_A_D := rfl
theorem FormOfInstr.and_A_E : FormOfInstr.Statement .and_A_E := rfl
theorem FormOfInstr.and_A_H : FormOfInstr.Statement .and_A_H := rfl
theorem FormOfInstr.and_A_L : FormOfInstr.Statement .and_A_L := rfl
theorem FormOfInstr.and_A_atHL : FormOfInstr.Statement .and_A_atHL := rfl
theorem FormOfInstr.and_A_A : FormOfInstr.Statement .and_A_A := rfl
theorem FormOfInstr.xor_A_B : FormOfInstr.Statement .xor_A_B := rfl
theorem FormOfInstr.xor_A_C : FormOfInstr.Statement .xor_A_C := rfl
theorem FormOfInstr.xor_A_D : FormOfInstr.Statement .xor_A_D := rfl
theorem FormOfInstr.xor_A_E : FormOfInstr.Statement .xor_A_E := rfl
theorem FormOfInstr.xor_A_H : FormOfInstr.Statement .xor_A_H := rfl
theorem FormOfInstr.xor_A_L : FormOfInstr.Statement .xor_A_L := rfl
theorem FormOfInstr.xor_A_atHL : FormOfInstr.Statement .xor_A_atHL := rfl
theorem FormOfInstr.xor_A_A : FormOfInstr.Statement .xor_A_A := rfl
theorem FormOfInstr.or_A_B : FormOfInstr.Statement .or_A_B := rfl
theorem FormOfInstr.or_A_C : FormOfInstr.Statement .or_A_C := rfl
theorem FormOfInstr.or_A_D : FormOfInstr.Statement .or_A_D := rfl
theorem FormOfInstr.or_A_E : FormOfInstr.Statement .or_A_E := rfl
theorem FormOfInstr.or_A_H : FormOfInstr.Statement .or_A_H := rfl
theorem FormOfInstr.or_A_L : FormOfInstr.Statement .or_A_L := rfl
theorem FormOfInstr.or_A_atHL : FormOfInstr.Statement .or_A_atHL := rfl
theorem FormOfInstr.or_A_A : FormOfInstr.Statement .or_A_A := rfl
theorem FormOfInstr.cp_A_B : FormOfInstr.Statement .cp_A_B := rfl
theorem FormOfInstr.cp_A_C : FormOfInstr.Statement .cp_A_C := rfl
theorem FormOfInstr.cp_A_D : FormOfInstr.Statement .cp_A_D := rfl
theorem FormOfInstr.cp_A_E : FormOfInstr.Statement .cp_A_E := rfl
theorem FormOfInstr.cp_A_H : FormOfInstr.Statement .cp_A_H := rfl
theorem FormOfInstr.cp_A_L : FormOfInstr.Statement .cp_A_L := rfl
theorem FormOfInstr.cp_A_atHL : FormOfInstr.Statement .cp_A_atHL := rfl
theorem FormOfInstr.cp_A_A : FormOfInstr.Statement .cp_A_A := rfl
theorem FormOfInstr.ret_NZ : FormOfInstr.Statement .ret_NZ := rfl
theorem FormOfInstr.pop_BC : FormOfInstr.Statement .pop_BC := rfl
theorem FormOfInstr.jp_NZ_a16 (a16 : Word) : FormOfInstr.Statement (.jp_NZ_a16 a16) := rfl
theorem FormOfInstr.jp_a16 (a16 : Word) : FormOfInstr.Statement (.jp_a16 a16) := rfl
theorem FormOfInstr.call_NZ_a16 (a16 : Word) : FormOfInstr.Statement (.call_NZ_a16 a16) := rfl
theorem FormOfInstr.push_BC : FormOfInstr.Statement .push_BC := rfl
theorem FormOfInstr.add_A_d8 (d8 : Byte) : FormOfInstr.Statement (.add_A_d8 d8) := rfl
theorem FormOfInstr.rst_00 : FormOfInstr.Statement .rst_00 := rfl
theorem FormOfInstr.ret_Z : FormOfInstr.Statement .ret_Z := rfl
theorem FormOfInstr.ret : FormOfInstr.Statement .ret := rfl
theorem FormOfInstr.jp_Z_a16 (a16 : Word) : FormOfInstr.Statement (.jp_Z_a16 a16) := rfl
theorem FormOfInstr.prefixCB (op2 : Byte) : FormOfInstr.Statement (.prefixCB op2) := rfl
theorem FormOfInstr.call_Z_a16 (a16 : Word) : FormOfInstr.Statement (.call_Z_a16 a16) := rfl
theorem FormOfInstr.call_a16 (a16 : Word) : FormOfInstr.Statement (.call_a16 a16) := rfl
theorem FormOfInstr.adc_A_d8 (d8 : Byte) : FormOfInstr.Statement (.adc_A_d8 d8) := rfl
theorem FormOfInstr.rst_08 : FormOfInstr.Statement .rst_08 := rfl
theorem FormOfInstr.ret_NC : FormOfInstr.Statement .ret_NC := rfl
theorem FormOfInstr.pop_DE : FormOfInstr.Statement .pop_DE := rfl
theorem FormOfInstr.jp_NC_a16 (a16 : Word) : FormOfInstr.Statement (.jp_NC_a16 a16) := rfl
theorem FormOfInstr.unused_D3 : FormOfInstr.Statement .unused_D3 := rfl
theorem FormOfInstr.call_NC_a16 (a16 : Word) : FormOfInstr.Statement (.call_NC_a16 a16) := rfl
theorem FormOfInstr.push_DE : FormOfInstr.Statement .push_DE := rfl
theorem FormOfInstr.sub_A_d8 (d8 : Byte) : FormOfInstr.Statement (.sub_A_d8 d8) := rfl
theorem FormOfInstr.rst_10 : FormOfInstr.Statement .rst_10 := rfl
theorem FormOfInstr.ret_C : FormOfInstr.Statement .ret_C := rfl
theorem FormOfInstr.reti : FormOfInstr.Statement .reti := rfl
theorem FormOfInstr.jp_C_a16 (a16 : Word) : FormOfInstr.Statement (.jp_C_a16 a16) := rfl
theorem FormOfInstr.unused_DB : FormOfInstr.Statement .unused_DB := rfl
theorem FormOfInstr.call_C_a16 (a16 : Word) : FormOfInstr.Statement (.call_C_a16 a16) := rfl
theorem FormOfInstr.unused_DD : FormOfInstr.Statement .unused_DD := rfl
theorem FormOfInstr.sbc_A_d8 (d8 : Byte) : FormOfInstr.Statement (.sbc_A_d8 d8) := rfl
theorem FormOfInstr.rst_18 : FormOfInstr.Statement .rst_18 := rfl
theorem FormOfInstr.ld_highA8_A (a8 : Byte) : FormOfInstr.Statement (.ld_highA8_A a8) := rfl
theorem FormOfInstr.pop_HL : FormOfInstr.Statement .pop_HL := rfl
theorem FormOfInstr.ld_highC_A : FormOfInstr.Statement .ld_highC_A := rfl
theorem FormOfInstr.unused_E3 : FormOfInstr.Statement .unused_E3 := rfl
theorem FormOfInstr.unused_E4 : FormOfInstr.Statement .unused_E4 := rfl
theorem FormOfInstr.push_HL : FormOfInstr.Statement .push_HL := rfl
theorem FormOfInstr.and_A_d8 (d8 : Byte) : FormOfInstr.Statement (.and_A_d8 d8) := rfl
theorem FormOfInstr.rst_20 : FormOfInstr.Statement .rst_20 := rfl
theorem FormOfInstr.add_SP_r8 (r8 : Byte) : FormOfInstr.Statement (.add_SP_r8 r8) := rfl
theorem FormOfInstr.jp_HL : FormOfInstr.Statement .jp_HL := rfl
theorem FormOfInstr.ld_atA16_A (a16 : Word) : FormOfInstr.Statement (.ld_atA16_A a16) := rfl
theorem FormOfInstr.unused_EB : FormOfInstr.Statement .unused_EB := rfl
theorem FormOfInstr.unused_EC : FormOfInstr.Statement .unused_EC := rfl
theorem FormOfInstr.unused_ED : FormOfInstr.Statement .unused_ED := rfl
theorem FormOfInstr.xor_A_d8 (d8 : Byte) : FormOfInstr.Statement (.xor_A_d8 d8) := rfl
theorem FormOfInstr.rst_28 : FormOfInstr.Statement .rst_28 := rfl
theorem FormOfInstr.ld_A_highA8 (a8 : Byte) : FormOfInstr.Statement (.ld_A_highA8 a8) := rfl
theorem FormOfInstr.pop_AF : FormOfInstr.Statement .pop_AF := rfl
theorem FormOfInstr.ld_A_highC : FormOfInstr.Statement .ld_A_highC := rfl
theorem FormOfInstr.di : FormOfInstr.Statement .di := rfl
theorem FormOfInstr.unused_F4 : FormOfInstr.Statement .unused_F4 := rfl
theorem FormOfInstr.push_AF : FormOfInstr.Statement .push_AF := rfl
theorem FormOfInstr.or_A_d8 (d8 : Byte) : FormOfInstr.Statement (.or_A_d8 d8) := rfl
theorem FormOfInstr.rst_30 : FormOfInstr.Statement .rst_30 := rfl
theorem FormOfInstr.ld_HL_SPr8 (r8 : Byte) : FormOfInstr.Statement (.ld_HL_SPr8 r8) := rfl
theorem FormOfInstr.ld_HL_SP : FormOfInstr.Statement .ld_HL_SP := rfl
theorem FormOfInstr.ld_A_atA16 (a16 : Word) : FormOfInstr.Statement (.ld_A_atA16 a16) := rfl
theorem FormOfInstr.ei : FormOfInstr.Statement .ei := rfl
theorem FormOfInstr.unused_FC : FormOfInstr.Statement .unused_FC := rfl
theorem FormOfInstr.unused_FD : FormOfInstr.Statement .unused_FD := rfl
theorem FormOfInstr.cp_A_d8 (d8 : Byte) : FormOfInstr.Statement (.cp_A_d8 d8) := rfl
theorem FormOfInstr.rst_38 : FormOfInstr.Statement .rst_38 := rfl
theorem FormOfInstr.rlc_B : FormOfInstr.Statement .rlc_B := rfl
theorem FormOfInstr.rlc_C : FormOfInstr.Statement .rlc_C := rfl
theorem FormOfInstr.rlc_D : FormOfInstr.Statement .rlc_D := rfl
theorem FormOfInstr.rlc_E : FormOfInstr.Statement .rlc_E := rfl
theorem FormOfInstr.rlc_H : FormOfInstr.Statement .rlc_H := rfl
theorem FormOfInstr.rlc_L : FormOfInstr.Statement .rlc_L := rfl
theorem FormOfInstr.rlc_atHL : FormOfInstr.Statement .rlc_atHL := rfl
theorem FormOfInstr.rlc_A : FormOfInstr.Statement .rlc_A := rfl
theorem FormOfInstr.rrc_B : FormOfInstr.Statement .rrc_B := rfl
theorem FormOfInstr.rrc_C : FormOfInstr.Statement .rrc_C := rfl
theorem FormOfInstr.rrc_D : FormOfInstr.Statement .rrc_D := rfl
theorem FormOfInstr.rrc_E : FormOfInstr.Statement .rrc_E := rfl
theorem FormOfInstr.rrc_H : FormOfInstr.Statement .rrc_H := rfl
theorem FormOfInstr.rrc_L : FormOfInstr.Statement .rrc_L := rfl
theorem FormOfInstr.rrc_atHL : FormOfInstr.Statement .rrc_atHL := rfl
theorem FormOfInstr.rrc_A : FormOfInstr.Statement .rrc_A := rfl
theorem FormOfInstr.rl_B : FormOfInstr.Statement .rl_B := rfl
theorem FormOfInstr.rl_C : FormOfInstr.Statement .rl_C := rfl
theorem FormOfInstr.rl_D : FormOfInstr.Statement .rl_D := rfl
theorem FormOfInstr.rl_E : FormOfInstr.Statement .rl_E := rfl
theorem FormOfInstr.rl_H : FormOfInstr.Statement .rl_H := rfl
theorem FormOfInstr.rl_L : FormOfInstr.Statement .rl_L := rfl
theorem FormOfInstr.rl_atHL : FormOfInstr.Statement .rl_atHL := rfl
theorem FormOfInstr.rl_A : FormOfInstr.Statement .rl_A := rfl
theorem FormOfInstr.rr_B : FormOfInstr.Statement .rr_B := rfl
theorem FormOfInstr.rr_C : FormOfInstr.Statement .rr_C := rfl
theorem FormOfInstr.rr_D : FormOfInstr.Statement .rr_D := rfl
theorem FormOfInstr.rr_E : FormOfInstr.Statement .rr_E := rfl
theorem FormOfInstr.rr_H : FormOfInstr.Statement .rr_H := rfl
theorem FormOfInstr.rr_L : FormOfInstr.Statement .rr_L := rfl
theorem FormOfInstr.rr_atHL : FormOfInstr.Statement .rr_atHL := rfl
theorem FormOfInstr.rr_A : FormOfInstr.Statement .rr_A := rfl
theorem FormOfInstr.sla_B : FormOfInstr.Statement .sla_B := rfl
theorem FormOfInstr.sla_C : FormOfInstr.Statement .sla_C := rfl
theorem FormOfInstr.sla_D : FormOfInstr.Statement .sla_D := rfl
theorem FormOfInstr.sla_E : FormOfInstr.Statement .sla_E := rfl
theorem FormOfInstr.sla_H : FormOfInstr.Statement .sla_H := rfl
theorem FormOfInstr.sla_L : FormOfInstr.Statement .sla_L := rfl
theorem FormOfInstr.sla_atHL : FormOfInstr.Statement .sla_atHL := rfl
theorem FormOfInstr.sla_A : FormOfInstr.Statement .sla_A := rfl
theorem FormOfInstr.sra_B : FormOfInstr.Statement .sra_B := rfl
theorem FormOfInstr.sra_C : FormOfInstr.Statement .sra_C := rfl
theorem FormOfInstr.sra_D : FormOfInstr.Statement .sra_D := rfl
theorem FormOfInstr.sra_E : FormOfInstr.Statement .sra_E := rfl
theorem FormOfInstr.sra_H : FormOfInstr.Statement .sra_H := rfl
theorem FormOfInstr.sra_L : FormOfInstr.Statement .sra_L := rfl
theorem FormOfInstr.sra_atHL : FormOfInstr.Statement .sra_atHL := rfl
theorem FormOfInstr.sra_A : FormOfInstr.Statement .sra_A := rfl
theorem FormOfInstr.swap_B : FormOfInstr.Statement .swap_B := rfl
theorem FormOfInstr.swap_C : FormOfInstr.Statement .swap_C := rfl
theorem FormOfInstr.swap_D : FormOfInstr.Statement .swap_D := rfl
theorem FormOfInstr.swap_E : FormOfInstr.Statement .swap_E := rfl
theorem FormOfInstr.swap_H : FormOfInstr.Statement .swap_H := rfl
theorem FormOfInstr.swap_L : FormOfInstr.Statement .swap_L := rfl
theorem FormOfInstr.swap_atHL : FormOfInstr.Statement .swap_atHL := rfl
theorem FormOfInstr.swap_A : FormOfInstr.Statement .swap_A := rfl
theorem FormOfInstr.srl_B : FormOfInstr.Statement .srl_B := rfl
theorem FormOfInstr.srl_C : FormOfInstr.Statement .srl_C := rfl
theorem FormOfInstr.srl_D : FormOfInstr.Statement .srl_D := rfl
theorem FormOfInstr.srl_E : FormOfInstr.Statement .srl_E := rfl
theorem FormOfInstr.srl_H : FormOfInstr.Statement .srl_H := rfl
theorem FormOfInstr.srl_L : FormOfInstr.Statement .srl_L := rfl
theorem FormOfInstr.srl_atHL : FormOfInstr.Statement .srl_atHL := rfl
theorem FormOfInstr.srl_A : FormOfInstr.Statement .srl_A := rfl
theorem FormOfInstr.bit_0_B : FormOfInstr.Statement .bit_0_B := rfl
theorem FormOfInstr.bit_0_C : FormOfInstr.Statement .bit_0_C := rfl
theorem FormOfInstr.bit_0_D : FormOfInstr.Statement .bit_0_D := rfl
theorem FormOfInstr.bit_0_E : FormOfInstr.Statement .bit_0_E := rfl
theorem FormOfInstr.bit_0_H : FormOfInstr.Statement .bit_0_H := rfl
theorem FormOfInstr.bit_0_L : FormOfInstr.Statement .bit_0_L := rfl
theorem FormOfInstr.bit_0_atHL : FormOfInstr.Statement .bit_0_atHL := rfl
theorem FormOfInstr.bit_0_A : FormOfInstr.Statement .bit_0_A := rfl
theorem FormOfInstr.bit_1_B : FormOfInstr.Statement .bit_1_B := rfl
theorem FormOfInstr.bit_1_C : FormOfInstr.Statement .bit_1_C := rfl
theorem FormOfInstr.bit_1_D : FormOfInstr.Statement .bit_1_D := rfl
theorem FormOfInstr.bit_1_E : FormOfInstr.Statement .bit_1_E := rfl
theorem FormOfInstr.bit_1_H : FormOfInstr.Statement .bit_1_H := rfl
theorem FormOfInstr.bit_1_L : FormOfInstr.Statement .bit_1_L := rfl
theorem FormOfInstr.bit_1_atHL : FormOfInstr.Statement .bit_1_atHL := rfl
theorem FormOfInstr.bit_1_A : FormOfInstr.Statement .bit_1_A := rfl
theorem FormOfInstr.bit_2_B : FormOfInstr.Statement .bit_2_B := rfl
theorem FormOfInstr.bit_2_C : FormOfInstr.Statement .bit_2_C := rfl
theorem FormOfInstr.bit_2_D : FormOfInstr.Statement .bit_2_D := rfl
theorem FormOfInstr.bit_2_E : FormOfInstr.Statement .bit_2_E := rfl
theorem FormOfInstr.bit_2_H : FormOfInstr.Statement .bit_2_H := rfl
theorem FormOfInstr.bit_2_L : FormOfInstr.Statement .bit_2_L := rfl
theorem FormOfInstr.bit_2_atHL : FormOfInstr.Statement .bit_2_atHL := rfl
theorem FormOfInstr.bit_2_A : FormOfInstr.Statement .bit_2_A := rfl
theorem FormOfInstr.bit_3_B : FormOfInstr.Statement .bit_3_B := rfl
theorem FormOfInstr.bit_3_C : FormOfInstr.Statement .bit_3_C := rfl
theorem FormOfInstr.bit_3_D : FormOfInstr.Statement .bit_3_D := rfl
theorem FormOfInstr.bit_3_E : FormOfInstr.Statement .bit_3_E := rfl
theorem FormOfInstr.bit_3_H : FormOfInstr.Statement .bit_3_H := rfl
theorem FormOfInstr.bit_3_L : FormOfInstr.Statement .bit_3_L := rfl
theorem FormOfInstr.bit_3_atHL : FormOfInstr.Statement .bit_3_atHL := rfl
theorem FormOfInstr.bit_3_A : FormOfInstr.Statement .bit_3_A := rfl
theorem FormOfInstr.bit_4_B : FormOfInstr.Statement .bit_4_B := rfl
theorem FormOfInstr.bit_4_C : FormOfInstr.Statement .bit_4_C := rfl
theorem FormOfInstr.bit_4_D : FormOfInstr.Statement .bit_4_D := rfl
theorem FormOfInstr.bit_4_E : FormOfInstr.Statement .bit_4_E := rfl
theorem FormOfInstr.bit_4_H : FormOfInstr.Statement .bit_4_H := rfl
theorem FormOfInstr.bit_4_L : FormOfInstr.Statement .bit_4_L := rfl
theorem FormOfInstr.bit_4_atHL : FormOfInstr.Statement .bit_4_atHL := rfl
theorem FormOfInstr.bit_4_A : FormOfInstr.Statement .bit_4_A := rfl
theorem FormOfInstr.bit_5_B : FormOfInstr.Statement .bit_5_B := rfl
theorem FormOfInstr.bit_5_C : FormOfInstr.Statement .bit_5_C := rfl
theorem FormOfInstr.bit_5_D : FormOfInstr.Statement .bit_5_D := rfl
theorem FormOfInstr.bit_5_E : FormOfInstr.Statement .bit_5_E := rfl
theorem FormOfInstr.bit_5_H : FormOfInstr.Statement .bit_5_H := rfl
theorem FormOfInstr.bit_5_L : FormOfInstr.Statement .bit_5_L := rfl
theorem FormOfInstr.bit_5_atHL : FormOfInstr.Statement .bit_5_atHL := rfl
theorem FormOfInstr.bit_5_A : FormOfInstr.Statement .bit_5_A := rfl
theorem FormOfInstr.bit_6_B : FormOfInstr.Statement .bit_6_B := rfl
theorem FormOfInstr.bit_6_C : FormOfInstr.Statement .bit_6_C := rfl
theorem FormOfInstr.bit_6_D : FormOfInstr.Statement .bit_6_D := rfl
theorem FormOfInstr.bit_6_E : FormOfInstr.Statement .bit_6_E := rfl
theorem FormOfInstr.bit_6_H : FormOfInstr.Statement .bit_6_H := rfl
theorem FormOfInstr.bit_6_L : FormOfInstr.Statement .bit_6_L := rfl
theorem FormOfInstr.bit_6_atHL : FormOfInstr.Statement .bit_6_atHL := rfl
theorem FormOfInstr.bit_6_A : FormOfInstr.Statement .bit_6_A := rfl
theorem FormOfInstr.bit_7_B : FormOfInstr.Statement .bit_7_B := rfl
theorem FormOfInstr.bit_7_C : FormOfInstr.Statement .bit_7_C := rfl
theorem FormOfInstr.bit_7_D : FormOfInstr.Statement .bit_7_D := rfl
theorem FormOfInstr.bit_7_E : FormOfInstr.Statement .bit_7_E := rfl
theorem FormOfInstr.bit_7_H : FormOfInstr.Statement .bit_7_H := rfl
theorem FormOfInstr.bit_7_L : FormOfInstr.Statement .bit_7_L := rfl
theorem FormOfInstr.bit_7_atHL : FormOfInstr.Statement .bit_7_atHL := rfl
theorem FormOfInstr.bit_7_A : FormOfInstr.Statement .bit_7_A := rfl
theorem FormOfInstr.res_0_B : FormOfInstr.Statement .res_0_B := rfl
theorem FormOfInstr.res_0_C : FormOfInstr.Statement .res_0_C := rfl
theorem FormOfInstr.res_0_D : FormOfInstr.Statement .res_0_D := rfl
theorem FormOfInstr.res_0_E : FormOfInstr.Statement .res_0_E := rfl
theorem FormOfInstr.res_0_H : FormOfInstr.Statement .res_0_H := rfl
theorem FormOfInstr.res_0_L : FormOfInstr.Statement .res_0_L := rfl
theorem FormOfInstr.res_0_atHL : FormOfInstr.Statement .res_0_atHL := rfl
theorem FormOfInstr.res_0_A : FormOfInstr.Statement .res_0_A := rfl
theorem FormOfInstr.res_1_B : FormOfInstr.Statement .res_1_B := rfl
theorem FormOfInstr.res_1_C : FormOfInstr.Statement .res_1_C := rfl
theorem FormOfInstr.res_1_D : FormOfInstr.Statement .res_1_D := rfl
theorem FormOfInstr.res_1_E : FormOfInstr.Statement .res_1_E := rfl
theorem FormOfInstr.res_1_H : FormOfInstr.Statement .res_1_H := rfl
theorem FormOfInstr.res_1_L : FormOfInstr.Statement .res_1_L := rfl
theorem FormOfInstr.res_1_atHL : FormOfInstr.Statement .res_1_atHL := rfl
theorem FormOfInstr.res_1_A : FormOfInstr.Statement .res_1_A := rfl
theorem FormOfInstr.res_2_B : FormOfInstr.Statement .res_2_B := rfl
theorem FormOfInstr.res_2_C : FormOfInstr.Statement .res_2_C := rfl
theorem FormOfInstr.res_2_D : FormOfInstr.Statement .res_2_D := rfl
theorem FormOfInstr.res_2_E : FormOfInstr.Statement .res_2_E := rfl
theorem FormOfInstr.res_2_H : FormOfInstr.Statement .res_2_H := rfl
theorem FormOfInstr.res_2_L : FormOfInstr.Statement .res_2_L := rfl
theorem FormOfInstr.res_2_atHL : FormOfInstr.Statement .res_2_atHL := rfl
theorem FormOfInstr.res_2_A : FormOfInstr.Statement .res_2_A := rfl
theorem FormOfInstr.res_3_B : FormOfInstr.Statement .res_3_B := rfl
theorem FormOfInstr.res_3_C : FormOfInstr.Statement .res_3_C := rfl
theorem FormOfInstr.res_3_D : FormOfInstr.Statement .res_3_D := rfl
theorem FormOfInstr.res_3_E : FormOfInstr.Statement .res_3_E := rfl
theorem FormOfInstr.res_3_H : FormOfInstr.Statement .res_3_H := rfl
theorem FormOfInstr.res_3_L : FormOfInstr.Statement .res_3_L := rfl
theorem FormOfInstr.res_3_atHL : FormOfInstr.Statement .res_3_atHL := rfl
theorem FormOfInstr.res_3_A : FormOfInstr.Statement .res_3_A := rfl
theorem FormOfInstr.res_4_B : FormOfInstr.Statement .res_4_B := rfl
theorem FormOfInstr.res_4_C : FormOfInstr.Statement .res_4_C := rfl
theorem FormOfInstr.res_4_D : FormOfInstr.Statement .res_4_D := rfl
theorem FormOfInstr.res_4_E : FormOfInstr.Statement .res_4_E := rfl
theorem FormOfInstr.res_4_H : FormOfInstr.Statement .res_4_H := rfl
theorem FormOfInstr.res_4_L : FormOfInstr.Statement .res_4_L := rfl
theorem FormOfInstr.res_4_atHL : FormOfInstr.Statement .res_4_atHL := rfl
theorem FormOfInstr.res_4_A : FormOfInstr.Statement .res_4_A := rfl
theorem FormOfInstr.res_5_B : FormOfInstr.Statement .res_5_B := rfl
theorem FormOfInstr.res_5_C : FormOfInstr.Statement .res_5_C := rfl
theorem FormOfInstr.res_5_D : FormOfInstr.Statement .res_5_D := rfl
theorem FormOfInstr.res_5_E : FormOfInstr.Statement .res_5_E := rfl
theorem FormOfInstr.res_5_H : FormOfInstr.Statement .res_5_H := rfl
theorem FormOfInstr.res_5_L : FormOfInstr.Statement .res_5_L := rfl
theorem FormOfInstr.res_5_atHL : FormOfInstr.Statement .res_5_atHL := rfl
theorem FormOfInstr.res_5_A : FormOfInstr.Statement .res_5_A := rfl
theorem FormOfInstr.res_6_B : FormOfInstr.Statement .res_6_B := rfl
theorem FormOfInstr.res_6_C : FormOfInstr.Statement .res_6_C := rfl
theorem FormOfInstr.res_6_D : FormOfInstr.Statement .res_6_D := rfl
theorem FormOfInstr.res_6_E : FormOfInstr.Statement .res_6_E := rfl
theorem FormOfInstr.res_6_H : FormOfInstr.Statement .res_6_H := rfl
theorem FormOfInstr.res_6_L : FormOfInstr.Statement .res_6_L := rfl
theorem FormOfInstr.res_6_atHL : FormOfInstr.Statement .res_6_atHL := rfl
theorem FormOfInstr.res_6_A : FormOfInstr.Statement .res_6_A := rfl
theorem FormOfInstr.res_7_B : FormOfInstr.Statement .res_7_B := rfl
theorem FormOfInstr.res_7_C : FormOfInstr.Statement .res_7_C := rfl
theorem FormOfInstr.res_7_D : FormOfInstr.Statement .res_7_D := rfl
theorem FormOfInstr.res_7_E : FormOfInstr.Statement .res_7_E := rfl
theorem FormOfInstr.res_7_H : FormOfInstr.Statement .res_7_H := rfl
theorem FormOfInstr.res_7_L : FormOfInstr.Statement .res_7_L := rfl
theorem FormOfInstr.res_7_atHL : FormOfInstr.Statement .res_7_atHL := rfl
theorem FormOfInstr.res_7_A : FormOfInstr.Statement .res_7_A := rfl
theorem FormOfInstr.set_0_B : FormOfInstr.Statement .set_0_B := rfl
theorem FormOfInstr.set_0_C : FormOfInstr.Statement .set_0_C := rfl
theorem FormOfInstr.set_0_D : FormOfInstr.Statement .set_0_D := rfl
theorem FormOfInstr.set_0_E : FormOfInstr.Statement .set_0_E := rfl
theorem FormOfInstr.set_0_H : FormOfInstr.Statement .set_0_H := rfl
theorem FormOfInstr.set_0_L : FormOfInstr.Statement .set_0_L := rfl
theorem FormOfInstr.set_0_atHL : FormOfInstr.Statement .set_0_atHL := rfl
theorem FormOfInstr.set_0_A : FormOfInstr.Statement .set_0_A := rfl
theorem FormOfInstr.set_1_B : FormOfInstr.Statement .set_1_B := rfl
theorem FormOfInstr.set_1_C : FormOfInstr.Statement .set_1_C := rfl
theorem FormOfInstr.set_1_D : FormOfInstr.Statement .set_1_D := rfl
theorem FormOfInstr.set_1_E : FormOfInstr.Statement .set_1_E := rfl
theorem FormOfInstr.set_1_H : FormOfInstr.Statement .set_1_H := rfl
theorem FormOfInstr.set_1_L : FormOfInstr.Statement .set_1_L := rfl
theorem FormOfInstr.set_1_atHL : FormOfInstr.Statement .set_1_atHL := rfl
theorem FormOfInstr.set_1_A : FormOfInstr.Statement .set_1_A := rfl
theorem FormOfInstr.set_2_B : FormOfInstr.Statement .set_2_B := rfl
theorem FormOfInstr.set_2_C : FormOfInstr.Statement .set_2_C := rfl
theorem FormOfInstr.set_2_D : FormOfInstr.Statement .set_2_D := rfl
theorem FormOfInstr.set_2_E : FormOfInstr.Statement .set_2_E := rfl
theorem FormOfInstr.set_2_H : FormOfInstr.Statement .set_2_H := rfl
theorem FormOfInstr.set_2_L : FormOfInstr.Statement .set_2_L := rfl
theorem FormOfInstr.set_2_atHL : FormOfInstr.Statement .set_2_atHL := rfl
theorem FormOfInstr.set_2_A : FormOfInstr.Statement .set_2_A := rfl
theorem FormOfInstr.set_3_B : FormOfInstr.Statement .set_3_B := rfl
theorem FormOfInstr.set_3_C : FormOfInstr.Statement .set_3_C := rfl
theorem FormOfInstr.set_3_D : FormOfInstr.Statement .set_3_D := rfl
theorem FormOfInstr.set_3_E : FormOfInstr.Statement .set_3_E := rfl
theorem FormOfInstr.set_3_H : FormOfInstr.Statement .set_3_H := rfl
theorem FormOfInstr.set_3_L : FormOfInstr.Statement .set_3_L := rfl
theorem FormOfInstr.set_3_atHL : FormOfInstr.Statement .set_3_atHL := rfl
theorem FormOfInstr.set_3_A : FormOfInstr.Statement .set_3_A := rfl
theorem FormOfInstr.set_4_B : FormOfInstr.Statement .set_4_B := rfl
theorem FormOfInstr.set_4_C : FormOfInstr.Statement .set_4_C := rfl
theorem FormOfInstr.set_4_D : FormOfInstr.Statement .set_4_D := rfl
theorem FormOfInstr.set_4_E : FormOfInstr.Statement .set_4_E := rfl
theorem FormOfInstr.set_4_H : FormOfInstr.Statement .set_4_H := rfl
theorem FormOfInstr.set_4_L : FormOfInstr.Statement .set_4_L := rfl
theorem FormOfInstr.set_4_atHL : FormOfInstr.Statement .set_4_atHL := rfl
theorem FormOfInstr.set_4_A : FormOfInstr.Statement .set_4_A := rfl
theorem FormOfInstr.set_5_B : FormOfInstr.Statement .set_5_B := rfl
theorem FormOfInstr.set_5_C : FormOfInstr.Statement .set_5_C := rfl
theorem FormOfInstr.set_5_D : FormOfInstr.Statement .set_5_D := rfl
theorem FormOfInstr.set_5_E : FormOfInstr.Statement .set_5_E := rfl
theorem FormOfInstr.set_5_H : FormOfInstr.Statement .set_5_H := rfl
theorem FormOfInstr.set_5_L : FormOfInstr.Statement .set_5_L := rfl
theorem FormOfInstr.set_5_atHL : FormOfInstr.Statement .set_5_atHL := rfl
theorem FormOfInstr.set_5_A : FormOfInstr.Statement .set_5_A := rfl
theorem FormOfInstr.set_6_B : FormOfInstr.Statement .set_6_B := rfl
theorem FormOfInstr.set_6_C : FormOfInstr.Statement .set_6_C := rfl
theorem FormOfInstr.set_6_D : FormOfInstr.Statement .set_6_D := rfl
theorem FormOfInstr.set_6_E : FormOfInstr.Statement .set_6_E := rfl
theorem FormOfInstr.set_6_H : FormOfInstr.Statement .set_6_H := rfl
theorem FormOfInstr.set_6_L : FormOfInstr.Statement .set_6_L := rfl
theorem FormOfInstr.set_6_atHL : FormOfInstr.Statement .set_6_atHL := rfl
theorem FormOfInstr.set_6_A : FormOfInstr.Statement .set_6_A := rfl
theorem FormOfInstr.set_7_B : FormOfInstr.Statement .set_7_B := rfl
theorem FormOfInstr.set_7_C : FormOfInstr.Statement .set_7_C := rfl
theorem FormOfInstr.set_7_D : FormOfInstr.Statement .set_7_D := rfl
theorem FormOfInstr.set_7_E : FormOfInstr.Statement .set_7_E := rfl
theorem FormOfInstr.set_7_H : FormOfInstr.Statement .set_7_H := rfl
theorem FormOfInstr.set_7_L : FormOfInstr.Statement .set_7_L := rfl
theorem FormOfInstr.set_7_atHL : FormOfInstr.Statement .set_7_atHL := rfl
theorem FormOfInstr.set_7_A : FormOfInstr.Statement .set_7_A := rfl

end Sys2Proof.Laws
end

