-- ==== Sys2Proof/Laws/Exec.lean ====
section
/-! SUPPORT. `exec` by the instruction's form: the 512 arms of the dispatch over the 51 forms, so that a proof about every
instruction is a case analysis over forms. -/
namespace Sys2Proof.Machine

/-- The shared operation of each form. -/
def execForm (f : Form) (s : State) : Result :=
  match f with
  | .ldRR d r => loadRegReg d r s
  | .ldRI d d8 => loadRegImm d d8 s
  | .ldMI d8 => storeImmAtHL d8 s
  | .ldPI rr d16 => loadPairImm rr d16 s
  | .ldRM d => loadRegAtHL d s
  | .ldMR r => storeRegAtHL r s
  | .stAcc m => storeAcc m s
  | .ldAcc m => loadAcc m s
  | .stSP a16 => storeSP a16 s
  | .ldHLSP => transferF9 Config.f9Semantics s
  | .ldHLSPr8 r8 => loadHLSPDisp r8 s
  | .addSPr8 r8 => addSPDisp r8 s
  | .inc8 (.reg r) => incReg r s
  | .inc8 .atHL => incAtHL s
  | .dec8 (.reg r) => decReg r s
  | .dec8 .atHL => decAtHL s
  | .alu op (.reg r) => aluReg op r s
  | .alu op .atHL => aluAtHL op s
  | .aluI op d8 => aluImm op d8 s
  | .daa => adjustDecimal s
  | .cpl => complementAcc s
  | .scf => setCarry s
  | .ccf => complementCarry s
  | .rlca => rotAcc .rlc s
  | .rla => rotAcc .rl s
  | .rrca => rotAcc .rrc s
  | .rra => rotAcc .rr s
  | .inc16 rr => incPair rr s
  | .dec16 rr => decPair rr s
  | .addHL rr => addHLPair rr s
  | .push rr => pushPair rr s
  | .pop rr => popPair rr s
  | .jp a16 => jumpTo a16 s
  | .jpHL => jumpHL s
  | .jpC cc a16 => jumpIf cc a16 s
  | .jr r8 => jumpRel r8 s
  | .jrC cc r8 => jumpRelIf cc r8 s
  | .call a16 => callTo a16 s
  | .callC cc a16 => callIf cc a16 s
  | .ret => returnPop s
  | .retC cc => returnIf cc s
  | .reti => returnEnable s
  | .rst t => restart t s
  | .ei => setInterruptEnable true s
  | .di => setInterruptEnable false s
  | .nop => costOnly s
  | .halt => costOnly s
  | .stop => costOnly s
  | .unused _ => unusedNoop s
  | .prefixCB op2 => extTable op2 (s.operand8 op2)
  | .rot op o => rotOpnd op o s
  | .bit n o => bitOpnd n o s
  | .res n o => resOpnd n o s
  | .set n o => setOpnd n o s

/-- Every arm of `exec` runs the shared operation of its instruction's form. -/
theorem exec_eq_execForm (i : Instr) (s : State) : exec i s = execForm i.form s := by cases i <;> rfl

/-- A form's instruction is of that form. -/
theorem form_instr (f : Form) : f.instr.form = f := by
  cases f with
  | ldRR d r => cases d <;> cases r <;> rfl
  | ldRI d _ => cases d <;> rfl
  | ldMI _ => rfl
  | ldPI rr _ => cases rr <;> rfl
  | ldRM d => cases d <;> rfl
  | ldMR r => cases r <;> rfl
  | stAcc m => cases m <;> rfl
  | ldAcc m => cases m <;> rfl
  | inc8 o => cases o with
    | reg r => cases r <;> rfl
    | atHL => rfl
  | dec8 o => cases o with
    | reg r => cases r <;> rfl
    | atHL => rfl
  | alu op o => cases op <;> cases o with
    | reg r => cases r <;> rfl
    | atHL => rfl
  | aluI op _ => cases op <;> rfl
  | inc16 rr => cases rr <;> rfl
  | dec16 rr => cases rr <;> rfl
  | addHL rr => cases rr <;> rfl
  | push rr => cases rr <;> rfl
  | pop rr => cases rr <;> rfl
  | jpC cc _ => cases cc <;> rfl
  | jrC cc _ => cases cc <;> rfl
  | callC cc _ => cases cc <;> rfl
  | retC cc => cases cc <;> rfl
  | rst t => revert t; decide
  | unused u => cases u <;> rfl
  | rot op o => cases op <;> cases o with
    | reg r => cases r <;> rfl
    | atHL => rfl
  | bit n o => cases o with
    | reg r => revert n; cases r <;> decide
    | atHL => revert n; decide
  | res n o => cases o with
    | reg r => revert n; cases r <;> decide
    | atHL => revert n; decide
  | set n o => cases o with
    | reg r => revert n; cases r <;> decide
    | atHL => revert n; decide
  | stSP _ => rfl
  | ldHLSP => rfl
  | ldHLSPr8 _ => rfl
  | addSPr8 _ => rfl
  | daa => rfl
  | cpl => rfl
  | scf => rfl
  | ccf => rfl
  | rlca => rfl
  | rla => rfl
  | rrca => rfl
  | rra => rfl
  | jp _ => rfl
  | jpHL => rfl
  | jr _ => rfl
  | call _ => rfl
  | ret => rfl
  | reti => rfl
  | ei => rfl
  | di => rfl
  | nop => rfl
  | halt => rfl
  | stop => rfl
  | prefixCB _ => rfl

/-- Running a form's instruction is running the form. -/
theorem exec_instr (f : Form) (s : State) : exec f.instr s = execForm f s := by
  rw [exec_eq_execForm, form_instr]

/-- The extended table as a form (40_step_dispatch.md R113). -/
theorem extTable_eq (op2 : Byte) (s : State) : extTable op2 s = execForm (extForm op2) s := by
  unfold extTable extForm
  generalize opX op2 = x
  match x with
  | 0 => rfl
  | 1 => rfl
  | 2 => rfl
  | _ + 3 => rfl

/-- The forms of the extended table. -/
theorem extForm_cases (op2 : Byte) :
    (∃ op o, extForm op2 = .rot op o) ∨ (∃ n o, extForm op2 = .bit n o) ∨ (∃ n o, extForm op2 = .res n o) ∨
      ∃ n o, extForm op2 = .set n o := by
  unfold extForm
  split
  · exact .inl ⟨_, _, rfl⟩
  · exact .inr (.inl ⟨_, _, rfl⟩)
  · exact .inr (.inr (.inl ⟨_, _, rfl⟩))
  · exact .inr (.inr (.inr ⟨_, _, rfl⟩))

theorem extForm_ne_prefixCB (op2 o : Byte) : extForm op2 ≠ .prefixCB o := by
  obtain ⟨_, _, h⟩ | ⟨_, _, h⟩ | ⟨_, _, h⟩ | ⟨_, _, h⟩ := extForm_cases op2 <;> rw [h] <;> exact fun h' => by cases h'

/-- A claim about every instruction and the next state it answers, from the same claim about every form but the 0xCB entry,
and the 0xCB entry's from its extended instruction's. -/
theorem exec_next_induction (P : Form → State → State → Prop)
    (form : ∀ f s t, (∀ o, f ≠ .prefixCB o) → execForm f s = .next t → P f s t)
    (entry : ∀ o s t, P (extForm o) (s.operand8 o) t → P (.prefixCB o) s t) (i : Instr) (s t : State)
    (h : exec i s = .next t) : P i.form s t := by
  rw [exec_eq_execForm] at h
  by_cases hx : ∃ o, i.form = .prefixCB o
  · obtain ⟨o, ho⟩ := hx
    rw [ho] at h ⊢
    refine entry o s t (form _ _ _ (extForm_ne_prefixCB o) ?_)
    rw [← extTable_eq]
    exact h
  · exact form _ _ _ (fun o ho => hx ⟨o, ho⟩) h

end Sys2Proof.Machine
end

