-- ==== Sys2Proof/Laws/Flags.lean ====
section
/-! SUPPORT. Reading a flag after writing one, and what the flag writes do to `F`'s low nibble. -/
namespace Sys2Proof.Machine

/-- Writing a flag writes only its bit (10_state.md R24). -/
theorem getFlag_putFlag (fl fl' : Flag) (v : Bool) (f : Byte) :
    getFlag fl' (putFlag fl v f) = if fl' = fl then v else getFlag fl' f := by
  revert f
  cases v <;> cases fl <;> cases fl' <;> decide

/-- Writing a flag leaves the low nibble. -/
theorem putFlag_low (fl : Flag) (v : Bool) (f : Byte) : putFlag fl v f &&& 0x0F#8 = f &&& 0x0F#8 := by
  revert f
  cases v <;> cases fl <;> decide

theorem State.setFlag_flag (s : State) (fl fl' : Flag) (v : Bool) :
    (s.setFlag fl v).flag fl' = if fl' = fl then v else s.flag fl' := getFlag_putFlag fl fl' v s.f

@[simp] theorem State.setFlag_flag_same (s : State) (fl : Flag) (v : Bool) : (s.setFlag fl v).flag fl = v := by
  rw [State.setFlag_flag, if_pos rfl]

theorem State.setFlag_flag_other (s : State) (fl fl' : Flag) (v : Bool) (h : fl' ≠ fl) :
    (s.setFlag fl v).flag fl' = s.flag fl' := by rw [State.setFlag_flag, if_neg h]

/-- The four flags after writing all four. -/
theorem State.setFlags_flag (s : State) (z n h c : Bool) (fl : Flag) :
    (s.setFlags z n h c).flag fl = match fl with | .Z => z | .N => n | .H => h | .C => c := by
  cases fl <;> simp [State.setFlags, State.setZNH, State.setFlag_flag]

/-- The four flags after writing Z, N and H. -/
theorem State.setZNH_flag (s : State) (z n h : Bool) (fl : Flag) :
    (s.setZNH z n h).flag fl = match fl with | .Z => z | .N => n | .H => h | .C => s.flag .C := by
  cases fl <;> simp [State.setZNH, State.setFlag_flag]

/-- The four flags after writing N, H and C. -/
theorem State.setNHC_flag (s : State) (n h c : Bool) (fl : Flag) :
    (s.setNHC n h c).flag fl = match fl with | .Z => s.flag .Z | .N => n | .H => h | .C => c := by
  cases fl <;> simp [State.setNHC, State.setFlag_flag]

/-- Flag writes change `F` only, and keep its low nibble. -/
theorem State.setZNH_eq (s : State) (z n h : Bool) : s.setZNH z n h = s.setF (s.setZNH z n h).f := rfl
theorem State.setNHC_eq (s : State) (n h c : Bool) : s.setNHC n h c = s.setF (s.setNHC n h c).f := rfl
theorem State.setFlags_eq (s : State) (z n h c : Bool) : s.setFlags z n h c = s.setF (s.setFlags z n h c).f := rfl

theorem State.setZNH_low (s : State) (z n h : Bool) : (s.setZNH z n h).f &&& 0x0F#8 = s.f &&& 0x0F#8 := by
  simp [State.setZNH, putFlag_low]
theorem State.setNHC_low (s : State) (n h c : Bool) : (s.setNHC n h c).f &&& 0x0F#8 = s.f &&& 0x0F#8 := by
  simp [State.setNHC, putFlag_low]
theorem State.setFlags_low (s : State) (z n h c : Bool) : (s.setFlags z n h c).f &&& 0x0F#8 = s.f &&& 0x0F#8 := by
  simp [State.setFlags, State.setZNH, putFlag_low]

end Sys2Proof.Machine
end

