-- ==== Sys2Proof/Laws/Observers.lean ====
section
/-! SUPPORT. One lemma per reader per update that does not touch what it reads, each true by definition: the registers by
name, the pair views, the flags, memory and the bus. -/
namespace Sys2Proof.Machine

@[simp] theorem State.setA_bc (s : State) (v : Byte) : (s.setA v).bc = s.bc := rfl
@[simp] theorem State.setA_de (s : State) (v : Byte) : (s.setA v).de = s.de := rfl
@[simp] theorem State.setA_hl (s : State) (v : Byte) : (s.setA v).hl = s.hl := rfl
@[simp] theorem State.setA_flag (s : State) (v : Byte) (g : Flag) : (s.setA v).flag g = s.flag g := rfl
@[simp] theorem State.setA_cond (s : State) (v : Byte) (cc : Cond) : (s.setA v).cond cc = s.cond cc := rfl
@[simp] theorem State.setA_accepts (s : State) (v : Byte) (b : Word) : (s.setA v).accepts b = s.accepts b := rfl
@[simp] theorem State.setA_peek (s : State) (v : Byte) (b : Word) : (s.setA v).peek b = s.peek b := rfl
@[simp] theorem State.setA_answer (s : State) (v : Byte) (b : Word) : (s.setA v).answer b = s.answer b := rfl

@[simp] theorem State.setB_de (s : State) (v : Byte) : (s.setB v).de = s.de := rfl
@[simp] theorem State.setB_hl (s : State) (v : Byte) : (s.setB v).hl = s.hl := rfl
@[simp] theorem State.setB_flag (s : State) (v : Byte) (g : Flag) : (s.setB v).flag g = s.flag g := rfl
@[simp] theorem State.setB_cond (s : State) (v : Byte) (cc : Cond) : (s.setB v).cond cc = s.cond cc := rfl
@[simp] theorem State.setB_accepts (s : State) (v : Byte) (b : Word) : (s.setB v).accepts b = s.accepts b := rfl
@[simp] theorem State.setB_peek (s : State) (v : Byte) (b : Word) : (s.setB v).peek b = s.peek b := rfl
@[simp] theorem State.setB_answer (s : State) (v : Byte) (b : Word) : (s.setB v).answer b = s.answer b := rfl

@[simp] theorem State.setC_de (s : State) (v : Byte) : (s.setC v).de = s.de := rfl
@[simp] theorem State.setC_hl (s : State) (v : Byte) : (s.setC v).hl = s.hl := rfl
@[simp] theorem State.setC_flag (s : State) (v : Byte) (g : Flag) : (s.setC v).flag g = s.flag g := rfl
@[simp] theorem State.setC_cond (s : State) (v : Byte) (cc : Cond) : (s.setC v).cond cc = s.cond cc := rfl
@[simp] theorem State.setC_accepts (s : State) (v : Byte) (b : Word) : (s.setC v).accepts b = s.accepts b := rfl
@[simp] theorem State.setC_peek (s : State) (v : Byte) (b : Word) : (s.setC v).peek b = s.peek b := rfl
@[simp] theorem State.setC_answer (s : State) (v : Byte) (b : Word) : (s.setC v).answer b = s.answer b := rfl

@[simp] theorem State.setD_bc (s : State) (v : Byte) : (s.setD v).bc = s.bc := rfl
@[simp] theorem State.setD_hl (s : State) (v : Byte) : (s.setD v).hl = s.hl := rfl
@[simp] theorem State.setD_flag (s : State) (v : Byte) (g : Flag) : (s.setD v).flag g = s.flag g := rfl
@[simp] theorem State.setD_cond (s : State) (v : Byte) (cc : Cond) : (s.setD v).cond cc = s.cond cc := rfl
@[simp] theorem State.setD_accepts (s : State) (v : Byte) (b : Word) : (s.setD v).accepts b = s.accepts b := rfl
@[simp] theorem State.setD_peek (s : State) (v : Byte) (b : Word) : (s.setD v).peek b = s.peek b := rfl
@[simp] theorem State.setD_answer (s : State) (v : Byte) (b : Word) : (s.setD v).answer b = s.answer b := rfl

@[simp] theorem State.setE_bc (s : State) (v : Byte) : (s.setE v).bc = s.bc := rfl
@[simp] theorem State.setE_hl (s : State) (v : Byte) : (s.setE v).hl = s.hl := rfl
@[simp] theorem State.setE_flag (s : State) (v : Byte) (g : Flag) : (s.setE v).flag g = s.flag g := rfl
@[simp] theorem State.setE_cond (s : State) (v : Byte) (cc : Cond) : (s.setE v).cond cc = s.cond cc := rfl
@[simp] theorem State.setE_accepts (s : State) (v : Byte) (b : Word) : (s.setE v).accepts b = s.accepts b := rfl
@[simp] theorem State.setE_peek (s : State) (v : Byte) (b : Word) : (s.setE v).peek b = s.peek b := rfl
@[simp] theorem State.setE_answer (s : State) (v : Byte) (b : Word) : (s.setE v).answer b = s.answer b := rfl

@[simp] theorem State.setF_r8 (s : State) (v : Byte) (r : Reg8) : (s.setF v).r8 r = s.r8 r := by cases r <;> rfl
@[simp] theorem State.setF_bc (s : State) (v : Byte) : (s.setF v).bc = s.bc := rfl
@[simp] theorem State.setF_de (s : State) (v : Byte) : (s.setF v).de = s.de := rfl
@[simp] theorem State.setF_hl (s : State) (v : Byte) : (s.setF v).hl = s.hl := rfl
@[simp] theorem State.setF_accepts (s : State) (v : Byte) (b : Word) : (s.setF v).accepts b = s.accepts b := rfl
@[simp] theorem State.setF_peek (s : State) (v : Byte) (b : Word) : (s.setF v).peek b = s.peek b := rfl
@[simp] theorem State.setF_answer (s : State) (v : Byte) (b : Word) : (s.setF v).answer b = s.answer b := rfl

@[simp] theorem State.setH_bc (s : State) (v : Byte) : (s.setH v).bc = s.bc := rfl
@[simp] theorem State.setH_de (s : State) (v : Byte) : (s.setH v).de = s.de := rfl
@[simp] theorem State.setH_flag (s : State) (v : Byte) (g : Flag) : (s.setH v).flag g = s.flag g := rfl
@[simp] theorem State.setH_cond (s : State) (v : Byte) (cc : Cond) : (s.setH v).cond cc = s.cond cc := rfl
@[simp] theorem State.setH_accepts (s : State) (v : Byte) (b : Word) : (s.setH v).accepts b = s.accepts b := rfl
@[simp] theorem State.setH_peek (s : State) (v : Byte) (b : Word) : (s.setH v).peek b = s.peek b := rfl
@[simp] theorem State.setH_answer (s : State) (v : Byte) (b : Word) : (s.setH v).answer b = s.answer b := rfl

@[simp] theorem State.setL_bc (s : State) (v : Byte) : (s.setL v).bc = s.bc := rfl
@[simp] theorem State.setL_de (s : State) (v : Byte) : (s.setL v).de = s.de := rfl
@[simp] theorem State.setL_flag (s : State) (v : Byte) (g : Flag) : (s.setL v).flag g = s.flag g := rfl
@[simp] theorem State.setL_cond (s : State) (v : Byte) (cc : Cond) : (s.setL v).cond cc = s.cond cc := rfl
@[simp] theorem State.setL_accepts (s : State) (v : Byte) (b : Word) : (s.setL v).accepts b = s.accepts b := rfl
@[simp] theorem State.setL_peek (s : State) (v : Byte) (b : Word) : (s.setL v).peek b = s.peek b := rfl
@[simp] theorem State.setL_answer (s : State) (v : Byte) (b : Word) : (s.setL v).answer b = s.answer b := rfl

@[simp] theorem State.setPC_r8 (s : State) (w : Word) (r : Reg8) : (s.setPC w).r8 r = s.r8 r := by cases r <;> rfl
@[simp] theorem State.setPC_bc (s : State) (w : Word) : (s.setPC w).bc = s.bc := rfl
@[simp] theorem State.setPC_de (s : State) (w : Word) : (s.setPC w).de = s.de := rfl
@[simp] theorem State.setPC_hl (s : State) (w : Word) : (s.setPC w).hl = s.hl := rfl
@[simp] theorem State.setPC_flag (s : State) (w : Word) (g : Flag) : (s.setPC w).flag g = s.flag g := rfl
@[simp] theorem State.setPC_cond (s : State) (w : Word) (cc : Cond) : (s.setPC w).cond cc = s.cond cc := rfl
@[simp] theorem State.setPC_accepts (s : State) (w : Word) (b : Word) : (s.setPC w).accepts b = s.accepts b := rfl
@[simp] theorem State.setPC_peek (s : State) (w : Word) (b : Word) : (s.setPC w).peek b = s.peek b := rfl
@[simp] theorem State.setPC_answer (s : State) (w : Word) (b : Word) : (s.setPC w).answer b = s.answer b := rfl

@[simp] theorem State.setSP_r8 (s : State) (w : Word) (r : Reg8) : (s.setSP w).r8 r = s.r8 r := by cases r <;> rfl
@[simp] theorem State.setSP_bc (s : State) (w : Word) : (s.setSP w).bc = s.bc := rfl
@[simp] theorem State.setSP_de (s : State) (w : Word) : (s.setSP w).de = s.de := rfl
@[simp] theorem State.setSP_hl (s : State) (w : Word) : (s.setSP w).hl = s.hl := rfl
@[simp] theorem State.setSP_flag (s : State) (w : Word) (g : Flag) : (s.setSP w).flag g = s.flag g := rfl
@[simp] theorem State.setSP_cond (s : State) (w : Word) (cc : Cond) : (s.setSP w).cond cc = s.cond cc := rfl
@[simp] theorem State.setSP_accepts (s : State) (w : Word) (b : Word) : (s.setSP w).accepts b = s.accepts b := rfl
@[simp] theorem State.setSP_peek (s : State) (w : Word) (b : Word) : (s.setSP w).peek b = s.peek b := rfl
@[simp] theorem State.setSP_answer (s : State) (w : Word) (b : Word) : (s.setSP w).answer b = s.answer b := rfl

@[simp] theorem State.setIME_r8 (s : State) (x : Bool) (r : Reg8) : (s.setIME x).r8 r = s.r8 r := by cases r <;> rfl
@[simp] theorem State.setIME_bc (s : State) (x : Bool) : (s.setIME x).bc = s.bc := rfl
@[simp] theorem State.setIME_de (s : State) (x : Bool) : (s.setIME x).de = s.de := rfl
@[simp] theorem State.setIME_hl (s : State) (x : Bool) : (s.setIME x).hl = s.hl := rfl
@[simp] theorem State.setIME_flag (s : State) (x : Bool) (g : Flag) : (s.setIME x).flag g = s.flag g := rfl
@[simp] theorem State.setIME_cond (s : State) (x : Bool) (cc : Cond) : (s.setIME x).cond cc = s.cond cc := rfl
@[simp] theorem State.setIME_accepts (s : State) (x : Bool) (b : Word) : (s.setIME x).accepts b = s.accepts b := rfl
@[simp] theorem State.setIME_peek (s : State) (x : Bool) (b : Word) : (s.setIME x).peek b = s.peek b := rfl
@[simp] theorem State.setIME_answer (s : State) (x : Bool) (b : Word) : (s.setIME x).answer b = s.answer b := rfl

@[simp] theorem State.clk_r8 (s : State) (t : Nat) (r : Reg8) : (s.clk t).r8 r = s.r8 r := by cases r <;> rfl
@[simp] theorem State.clk_bc (s : State) (t : Nat) : (s.clk t).bc = s.bc := rfl
@[simp] theorem State.clk_de (s : State) (t : Nat) : (s.clk t).de = s.de := rfl
@[simp] theorem State.clk_hl (s : State) (t : Nat) : (s.clk t).hl = s.hl := rfl
@[simp] theorem State.clk_flag (s : State) (t : Nat) (g : Flag) : (s.clk t).flag g = s.flag g := rfl
@[simp] theorem State.clk_cond (s : State) (t : Nat) (cc : Cond) : (s.clk t).cond cc = s.cond cc := rfl
@[simp] theorem State.clk_accepts (s : State) (t : Nat) (b : Word) : (s.clk t).accepts b = s.accepts b := rfl
@[simp] theorem State.clk_peek (s : State) (t : Nat) (b : Word) : (s.clk t).peek b = s.peek b := rfl
@[simp] theorem State.clk_answer (s : State) (t : Nat) (b : Word) : (s.clk t).answer b = s.answer b := rfl

@[simp] theorem State.issued_r8 (s : State) (x : Access) (r : Reg8) : (s.issued x).r8 r = s.r8 r := by cases r <;> rfl
@[simp] theorem State.issued_bc (s : State) (x : Access) : (s.issued x).bc = s.bc := rfl
@[simp] theorem State.issued_de (s : State) (x : Access) : (s.issued x).de = s.de := rfl
@[simp] theorem State.issued_hl (s : State) (x : Access) : (s.issued x).hl = s.hl := rfl
@[simp] theorem State.issued_flag (s : State) (x : Access) (g : Flag) : (s.issued x).flag g = s.flag g := rfl
@[simp] theorem State.issued_cond (s : State) (x : Access) (cc : Cond) : (s.issued x).cond cc = s.cond cc := rfl
@[simp] theorem State.issued_accepts (s : State) (x : Access) (b : Word) : (s.issued x).accepts b = s.accepts b := by simp [State.accepts]
@[simp] theorem State.issued_peek (s : State) (x : Access) (b : Word) : (s.issued x).peek b = s.peek b := rfl

@[simp] theorem State.writeByte_r8 (s : State) (a : Word) (v : Byte) (r : Reg8) : (s.writeByte a v).r8 r = s.r8 r := by cases r <;> rfl
@[simp] theorem State.writeByte_bc (s : State) (a : Word) (v : Byte) : (s.writeByte a v).bc = s.bc := rfl
@[simp] theorem State.writeByte_de (s : State) (a : Word) (v : Byte) : (s.writeByte a v).de = s.de := rfl
@[simp] theorem State.writeByte_hl (s : State) (a : Word) (v : Byte) : (s.writeByte a v).hl = s.hl := rfl
@[simp] theorem State.writeByte_flag (s : State) (a : Word) (v : Byte) (g : Flag) : (s.writeByte a v).flag g = s.flag g := rfl
@[simp] theorem State.writeByte_cond (s : State) (a : Word) (v : Byte) (cc : Cond) : (s.writeByte a v).cond cc = s.cond cc := rfl
@[simp] theorem State.writeByte_accepts (s : State) (a : Word) (v : Byte) (b : Word) : (s.writeByte a v).accepts b = s.accepts b := by simp [State.accepts]

@[simp] theorem State.setFlag_r8 (s : State) (fl : Flag) (v : Bool) (r : Reg8) : (s.setFlag fl v).r8 r = s.r8 r := by cases r <;> rfl
@[simp] theorem State.setFlag_bc (s : State) (fl : Flag) (v : Bool) : (s.setFlag fl v).bc = s.bc := rfl
@[simp] theorem State.setFlag_de (s : State) (fl : Flag) (v : Bool) : (s.setFlag fl v).de = s.de := rfl
@[simp] theorem State.setFlag_hl (s : State) (fl : Flag) (v : Bool) : (s.setFlag fl v).hl = s.hl := rfl
@[simp] theorem State.setFlag_accepts (s : State) (fl : Flag) (v : Bool) (b : Word) : (s.setFlag fl v).accepts b = s.accepts b := rfl
@[simp] theorem State.setFlag_peek (s : State) (fl : Flag) (v : Bool) (b : Word) : (s.setFlag fl v).peek b = s.peek b := rfl
@[simp] theorem State.setFlag_answer (s : State) (fl : Flag) (v : Bool) (b : Word) : (s.setFlag fl v).answer b = s.answer b := rfl

@[simp] theorem State.operand8_r8 (s : State) (v : Byte) (r : Reg8) : (s.operand8 v).r8 r = s.r8 r := by cases r <;> rfl
@[simp] theorem State.operand8_bc (s : State) (v : Byte) : (s.operand8 v).bc = s.bc := rfl
@[simp] theorem State.operand8_de (s : State) (v : Byte) : (s.operand8 v).de = s.de := rfl
@[simp] theorem State.operand8_hl (s : State) (v : Byte) : (s.operand8 v).hl = s.hl := rfl
@[simp] theorem State.operand8_flag (s : State) (v : Byte) (g : Flag) : (s.operand8 v).flag g = s.flag g := rfl
@[simp] theorem State.operand8_cond (s : State) (v : Byte) (cc : Cond) : (s.operand8 v).cond cc = s.cond cc := rfl
@[simp] theorem State.operand8_accepts (s : State) (v : Byte) (b : Word) : (s.operand8 v).accepts b = s.accepts b := by simp [State.accepts, State.operand8]
@[simp] theorem State.operand8_peek (s : State) (v : Byte) (b : Word) : (s.operand8 v).peek b = s.peek b := rfl

@[simp] theorem State.operand16_r8 (s : State) (w : Word) (r : Reg8) : (s.operand16 w).r8 r = s.r8 r := by cases r <;> rfl
@[simp] theorem State.operand16_bc (s : State) (w : Word) : (s.operand16 w).bc = s.bc := rfl
@[simp] theorem State.operand16_de (s : State) (w : Word) : (s.operand16 w).de = s.de := rfl
@[simp] theorem State.operand16_hl (s : State) (w : Word) : (s.operand16 w).hl = s.hl := rfl
@[simp] theorem State.operand16_flag (s : State) (w : Word) (g : Flag) : (s.operand16 w).flag g = s.flag g := rfl
@[simp] theorem State.operand16_cond (s : State) (w : Word) (cc : Cond) : (s.operand16 w).cond cc = s.cond cc := rfl
@[simp] theorem State.operand16_accepts (s : State) (w : Word) (b : Word) : (s.operand16 w).accepts b = s.accepts b := by simp [State.accepts, State.operand16]
@[simp] theorem State.operand16_peek (s : State) (w : Word) (b : Word) : (s.operand16 w).peek b = s.peek b := rfl

@[simp] theorem State.skip_r8 (s : State) (n : Word) (r : Reg8) : (s.skip n).r8 r = s.r8 r := by cases r <;> rfl
@[simp] theorem State.skip_bc (s : State) (n : Word) : (s.skip n).bc = s.bc := rfl
@[simp] theorem State.skip_de (s : State) (n : Word) : (s.skip n).de = s.de := rfl
@[simp] theorem State.skip_hl (s : State) (n : Word) : (s.skip n).hl = s.hl := rfl
@[simp] theorem State.skip_flag (s : State) (n : Word) (g : Flag) : (s.skip n).flag g = s.flag g := rfl
@[simp] theorem State.skip_cond (s : State) (n : Word) (cc : Cond) : (s.skip n).cond cc = s.cond cc := rfl
@[simp] theorem State.skip_accepts (s : State) (n : Word) (b : Word) : (s.skip n).accepts b = s.accepts b := rfl
@[simp] theorem State.skip_peek (s : State) (n : Word) (b : Word) : (s.skip n).peek b = s.peek b := rfl
@[simp] theorem State.skip_answer (s : State) (n : Word) (b : Word) : (s.skip n).answer b = s.answer b := rfl

@[simp] theorem State.setZNH_r8 (s : State) (z n h : Bool) (r : Reg8) : (s.setZNH z n h).r8 r = s.r8 r := by cases r <;> rfl
@[simp] theorem State.setZNH_bc (s : State) (z n h : Bool) : (s.setZNH z n h).bc = s.bc := rfl
@[simp] theorem State.setZNH_de (s : State) (z n h : Bool) : (s.setZNH z n h).de = s.de := rfl
@[simp] theorem State.setZNH_hl (s : State) (z n h : Bool) : (s.setZNH z n h).hl = s.hl := rfl
@[simp] theorem State.setZNH_accepts (s : State) (z n h : Bool) (b : Word) : (s.setZNH z n h).accepts b = s.accepts b := rfl
@[simp] theorem State.setZNH_peek (s : State) (z n h : Bool) (b : Word) : (s.setZNH z n h).peek b = s.peek b := rfl
@[simp] theorem State.setZNH_answer (s : State) (z n h : Bool) (b : Word) : (s.setZNH z n h).answer b = s.answer b := rfl

@[simp] theorem State.setNHC_r8 (s : State) (n h c : Bool) (r : Reg8) : (s.setNHC n h c).r8 r = s.r8 r := by cases r <;> rfl
@[simp] theorem State.setNHC_bc (s : State) (n h c : Bool) : (s.setNHC n h c).bc = s.bc := rfl
@[simp] theorem State.setNHC_de (s : State) (n h c : Bool) : (s.setNHC n h c).de = s.de := rfl
@[simp] theorem State.setNHC_hl (s : State) (n h c : Bool) : (s.setNHC n h c).hl = s.hl := rfl
@[simp] theorem State.setNHC_accepts (s : State) (n h c : Bool) (b : Word) : (s.setNHC n h c).accepts b = s.accepts b := rfl
@[simp] theorem State.setNHC_peek (s : State) (n h c : Bool) (b : Word) : (s.setNHC n h c).peek b = s.peek b := rfl
@[simp] theorem State.setNHC_answer (s : State) (n h c : Bool) (b : Word) : (s.setNHC n h c).answer b = s.answer b := rfl

@[simp] theorem State.setFlags_r8 (s : State) (z n h c : Bool) (r : Reg8) : (s.setFlags z n h c).r8 r = s.r8 r := by cases r <;> rfl
@[simp] theorem State.setFlags_bc (s : State) (z n h c : Bool) : (s.setFlags z n h c).bc = s.bc := rfl
@[simp] theorem State.setFlags_de (s : State) (z n h c : Bool) : (s.setFlags z n h c).de = s.de := rfl
@[simp] theorem State.setFlags_hl (s : State) (z n h c : Bool) : (s.setFlags z n h c).hl = s.hl := rfl
@[simp] theorem State.setFlags_accepts (s : State) (z n h c : Bool) (b : Word) : (s.setFlags z n h c).accepts b = s.accepts b := rfl
@[simp] theorem State.setFlags_peek (s : State) (z n h c : Bool) (b : Word) : (s.setFlags z n h c).peek b = s.peek b := rfl
@[simp] theorem State.setFlags_answer (s : State) (z n h c : Bool) (b : Word) : (s.setFlags z n h c).answer b = s.answer b := rfl

@[simp] theorem State.operand8_a (s : State) (v : Byte) : (s.operand8 v).a = s.a := rfl
@[simp] theorem State.operand8_b (s : State) (v : Byte) : (s.operand8 v).b = s.b := rfl
@[simp] theorem State.operand8_c (s : State) (v : Byte) : (s.operand8 v).c = s.c := rfl
@[simp] theorem State.operand8_d (s : State) (v : Byte) : (s.operand8 v).d = s.d := rfl
@[simp] theorem State.operand8_e (s : State) (v : Byte) : (s.operand8 v).e = s.e := rfl
@[simp] theorem State.operand8_f (s : State) (v : Byte) : (s.operand8 v).f = s.f := rfl
@[simp] theorem State.operand8_h (s : State) (v : Byte) : (s.operand8 v).h = s.h := rfl
@[simp] theorem State.operand8_l (s : State) (v : Byte) : (s.operand8 v).l = s.l := rfl
@[simp] theorem State.operand8_pc (s : State) (v : Byte) : (s.operand8 v).pc = s.pc + 1#16 := rfl
@[simp] theorem State.operand8_sp (s : State) (v : Byte) : (s.operand8 v).sp = s.sp := rfl
@[simp] theorem State.operand8_ime (s : State) (v : Byte) : (s.operand8 v).ime = s.ime := rfl
@[simp] theorem State.operand8_lastClockT (s : State) (v : Byte) : (s.operand8 v).lastClockT = s.lastClockT := rfl
@[simp] theorem State.operand8_lastClockM (s : State) (v : Byte) : (s.operand8 v).lastClockM = s.lastClockM := rfl
@[simp] theorem State.operand8_mem (s : State) (v : Byte) : (s.operand8 v).mem = s.mem := rfl
@[simp] theorem State.operand8_bus (s : State) (v : Byte) : (s.operand8 v).bus = s.bus.after (.read s.pc v) := rfl
@[simp] theorem State.operand8_accesses (s : State) (v : Byte) : (s.operand8 v).accesses = s.accesses ++ [.read s.pc v] := rfl
@[simp] theorem State.operand8_unusedWarn (s : State) (v : Byte) : (s.operand8 v).unusedWarn = s.unusedWarn := rfl

@[simp] theorem State.operand16_a (s : State) (w : Word) : (s.operand16 w).a = s.a := rfl
@[simp] theorem State.operand16_b (s : State) (w : Word) : (s.operand16 w).b = s.b := rfl
@[simp] theorem State.operand16_c (s : State) (w : Word) : (s.operand16 w).c = s.c := rfl
@[simp] theorem State.operand16_d (s : State) (w : Word) : (s.operand16 w).d = s.d := rfl
@[simp] theorem State.operand16_e (s : State) (w : Word) : (s.operand16 w).e = s.e := rfl
@[simp] theorem State.operand16_f (s : State) (w : Word) : (s.operand16 w).f = s.f := rfl
@[simp] theorem State.operand16_h (s : State) (w : Word) : (s.operand16 w).h = s.h := rfl
@[simp] theorem State.operand16_l (s : State) (w : Word) : (s.operand16 w).l = s.l := rfl
@[simp] theorem State.operand16_pc (s : State) (w : Word) : (s.operand16 w).pc = s.pc + 2#16 := rfl
@[simp] theorem State.operand16_sp (s : State) (w : Word) : (s.operand16 w).sp = s.sp := rfl
@[simp] theorem State.operand16_ime (s : State) (w : Word) : (s.operand16 w).ime = s.ime := rfl
@[simp] theorem State.operand16_lastClockT (s : State) (w : Word) : (s.operand16 w).lastClockT = s.lastClockT := rfl
@[simp] theorem State.operand16_lastClockM (s : State) (w : Word) : (s.operand16 w).lastClockM = s.lastClockM := rfl
@[simp] theorem State.operand16_mem (s : State) (w : Word) : (s.operand16 w).mem = s.mem := rfl
@[simp] theorem State.operand16_bus (s : State) (w : Word) : (s.operand16 w).bus = (s.bus.after (.read s.pc (lo8 w))).after (.read (s.pc + 1#16) (hi8 w)) := rfl
@[simp] theorem State.operand16_accesses (s : State) (w : Word) : (s.operand16 w).accesses = s.accesses ++ [.read s.pc (lo8 w), .read (s.pc + 1#16) (hi8 w)] := by simp [State.operand16]
@[simp] theorem State.operand16_unusedWarn (s : State) (w : Word) : (s.operand16 w).unusedWarn = s.unusedWarn := rfl

@[simp] theorem State.skip_a (s : State) (n : Word) : (s.skip n).a = s.a := rfl
@[simp] theorem State.skip_b (s : State) (n : Word) : (s.skip n).b = s.b := rfl
@[simp] theorem State.skip_c (s : State) (n : Word) : (s.skip n).c = s.c := rfl
@[simp] theorem State.skip_d (s : State) (n : Word) : (s.skip n).d = s.d := rfl
@[simp] theorem State.skip_e (s : State) (n : Word) : (s.skip n).e = s.e := rfl
@[simp] theorem State.skip_f (s : State) (n : Word) : (s.skip n).f = s.f := rfl
@[simp] theorem State.skip_h (s : State) (n : Word) : (s.skip n).h = s.h := rfl
@[simp] theorem State.skip_l (s : State) (n : Word) : (s.skip n).l = s.l := rfl
@[simp] theorem State.skip_pc (s : State) (n : Word) : (s.skip n).pc = s.pc + n := rfl
@[simp] theorem State.skip_sp (s : State) (n : Word) : (s.skip n).sp = s.sp := rfl
@[simp] theorem State.skip_ime (s : State) (n : Word) : (s.skip n).ime = s.ime := rfl
@[simp] theorem State.skip_lastClockT (s : State) (n : Word) : (s.skip n).lastClockT = s.lastClockT := rfl
@[simp] theorem State.skip_lastClockM (s : State) (n : Word) : (s.skip n).lastClockM = s.lastClockM := rfl
@[simp] theorem State.skip_mem (s : State) (n : Word) : (s.skip n).mem = s.mem := rfl
@[simp] theorem State.skip_bus (s : State) (n : Word) : (s.skip n).bus = s.bus := rfl
@[simp] theorem State.skip_accesses (s : State) (n : Word) : (s.skip n).accesses = s.accesses := rfl
@[simp] theorem State.skip_unusedWarn (s : State) (n : Word) : (s.skip n).unusedWarn = s.unusedWarn := rfl

@[simp] theorem State.setZNH_a (s : State) (z n h : Bool) : (s.setZNH z n h).a = s.a := rfl
@[simp] theorem State.setZNH_b (s : State) (z n h : Bool) : (s.setZNH z n h).b = s.b := rfl
@[simp] theorem State.setZNH_c (s : State) (z n h : Bool) : (s.setZNH z n h).c = s.c := rfl
@[simp] theorem State.setZNH_d (s : State) (z n h : Bool) : (s.setZNH z n h).d = s.d := rfl
@[simp] theorem State.setZNH_e (s : State) (z n h : Bool) : (s.setZNH z n h).e = s.e := rfl
@[simp] theorem State.setZNH_h (s : State) (z n h : Bool) : (s.setZNH z n h).h = s.h := rfl
@[simp] theorem State.setZNH_l (s : State) (z n h : Bool) : (s.setZNH z n h).l = s.l := rfl
@[simp] theorem State.setZNH_pc (s : State) (z n h : Bool) : (s.setZNH z n h).pc = s.pc := rfl
@[simp] theorem State.setZNH_sp (s : State) (z n h : Bool) : (s.setZNH z n h).sp = s.sp := rfl
@[simp] theorem State.setZNH_ime (s : State) (z n h : Bool) : (s.setZNH z n h).ime = s.ime := rfl
@[simp] theorem State.setZNH_lastClockT (s : State) (z n h : Bool) : (s.setZNH z n h).lastClockT = s.lastClockT := rfl
@[simp] theorem State.setZNH_lastClockM (s : State) (z n h : Bool) : (s.setZNH z n h).lastClockM = s.lastClockM := rfl
@[simp] theorem State.setZNH_mem (s : State) (z n h : Bool) : (s.setZNH z n h).mem = s.mem := rfl
@[simp] theorem State.setZNH_bus (s : State) (z n h : Bool) : (s.setZNH z n h).bus = s.bus := rfl
@[simp] theorem State.setZNH_accesses (s : State) (z n h : Bool) : (s.setZNH z n h).accesses = s.accesses := rfl
@[simp] theorem State.setZNH_unusedWarn (s : State) (z n h : Bool) : (s.setZNH z n h).unusedWarn = s.unusedWarn := rfl

@[simp] theorem State.setNHC_a (s : State) (n h c : Bool) : (s.setNHC n h c).a = s.a := rfl
@[simp] theorem State.setNHC_b (s : State) (n h c : Bool) : (s.setNHC n h c).b = s.b := rfl
@[simp] theorem State.setNHC_c (s : State) (n h c : Bool) : (s.setNHC n h c).c = s.c := rfl
@[simp] theorem State.setNHC_d (s : State) (n h c : Bool) : (s.setNHC n h c).d = s.d := rfl
@[simp] theorem State.setNHC_e (s : State) (n h c : Bool) : (s.setNHC n h c).e = s.e := rfl
@[simp] theorem State.setNHC_h (s : State) (n h c : Bool) : (s.setNHC n h c).h = s.h := rfl
@[simp] theorem State.setNHC_l (s : State) (n h c : Bool) : (s.setNHC n h c).l = s.l := rfl
@[simp] theorem State.setNHC_pc (s : State) (n h c : Bool) : (s.setNHC n h c).pc = s.pc := rfl
@[simp] theorem State.setNHC_sp (s : State) (n h c : Bool) : (s.setNHC n h c).sp = s.sp := rfl
@[simp] theorem State.setNHC_ime (s : State) (n h c : Bool) : (s.setNHC n h c).ime = s.ime := rfl
@[simp] theorem State.setNHC_lastClockT (s : State) (n h c : Bool) : (s.setNHC n h c).lastClockT = s.lastClockT := rfl
@[simp] theorem State.setNHC_lastClockM (s : State) (n h c : Bool) : (s.setNHC n h c).lastClockM = s.lastClockM := rfl
@[simp] theorem State.setNHC_mem (s : State) (n h c : Bool) : (s.setNHC n h c).mem = s.mem := rfl
@[simp] theorem State.setNHC_bus (s : State) (n h c : Bool) : (s.setNHC n h c).bus = s.bus := rfl
@[simp] theorem State.setNHC_accesses (s : State) (n h c : Bool) : (s.setNHC n h c).accesses = s.accesses := rfl
@[simp] theorem State.setNHC_unusedWarn (s : State) (n h c : Bool) : (s.setNHC n h c).unusedWarn = s.unusedWarn := rfl

@[simp] theorem State.setFlags_a (s : State) (z n h c : Bool) : (s.setFlags z n h c).a = s.a := rfl
@[simp] theorem State.setFlags_b (s : State) (z n h c : Bool) : (s.setFlags z n h c).b = s.b := rfl
@[simp] theorem State.setFlags_c (s : State) (z n h c : Bool) : (s.setFlags z n h c).c = s.c := rfl
@[simp] theorem State.setFlags_d (s : State) (z n h c : Bool) : (s.setFlags z n h c).d = s.d := rfl
@[simp] theorem State.setFlags_e (s : State) (z n h c : Bool) : (s.setFlags z n h c).e = s.e := rfl
@[simp] theorem State.setFlags_h (s : State) (z n h c : Bool) : (s.setFlags z n h c).h = s.h := rfl
@[simp] theorem State.setFlags_l (s : State) (z n h c : Bool) : (s.setFlags z n h c).l = s.l := rfl
@[simp] theorem State.setFlags_pc (s : State) (z n h c : Bool) : (s.setFlags z n h c).pc = s.pc := rfl
@[simp] theorem State.setFlags_sp (s : State) (z n h c : Bool) : (s.setFlags z n h c).sp = s.sp := rfl
@[simp] theorem State.setFlags_ime (s : State) (z n h c : Bool) : (s.setFlags z n h c).ime = s.ime := rfl
@[simp] theorem State.setFlags_lastClockT (s : State) (z n h c : Bool) : (s.setFlags z n h c).lastClockT = s.lastClockT := rfl
@[simp] theorem State.setFlags_lastClockM (s : State) (z n h c : Bool) : (s.setFlags z n h c).lastClockM = s.lastClockM := rfl
@[simp] theorem State.setFlags_mem (s : State) (z n h c : Bool) : (s.setFlags z n h c).mem = s.mem := rfl
@[simp] theorem State.setFlags_bus (s : State) (z n h c : Bool) : (s.setFlags z n h c).bus = s.bus := rfl
@[simp] theorem State.setFlags_accesses (s : State) (z n h c : Bool) : (s.setFlags z n h c).accesses = s.accesses := rfl
@[simp] theorem State.setFlags_unusedWarn (s : State) (z n h c : Bool) : (s.setFlags z n h c).unusedWarn = s.unusedWarn := rfl

@[simp] theorem State.setBC_a (s : State) (w : Word) : (s.setBC w).a = s.a := rfl
@[simp] theorem State.setBC_b (s : State) (w : Word) : (s.setBC w).b = hi8 w := rfl
@[simp] theorem State.setBC_c (s : State) (w : Word) : (s.setBC w).c = lo8 w := rfl
@[simp] theorem State.setBC_d (s : State) (w : Word) : (s.setBC w).d = s.d := rfl
@[simp] theorem State.setBC_e (s : State) (w : Word) : (s.setBC w).e = s.e := rfl
@[simp] theorem State.setBC_f (s : State) (w : Word) : (s.setBC w).f = s.f := rfl
@[simp] theorem State.setBC_h (s : State) (w : Word) : (s.setBC w).h = s.h := rfl
@[simp] theorem State.setBC_l (s : State) (w : Word) : (s.setBC w).l = s.l := rfl
@[simp] theorem State.setBC_pc (s : State) (w : Word) : (s.setBC w).pc = s.pc := rfl
@[simp] theorem State.setBC_sp (s : State) (w : Word) : (s.setBC w).sp = s.sp := rfl
@[simp] theorem State.setBC_ime (s : State) (w : Word) : (s.setBC w).ime = s.ime := rfl
@[simp] theorem State.setBC_lastClockT (s : State) (w : Word) : (s.setBC w).lastClockT = s.lastClockT := rfl
@[simp] theorem State.setBC_lastClockM (s : State) (w : Word) : (s.setBC w).lastClockM = s.lastClockM := rfl
@[simp] theorem State.setBC_mem (s : State) (w : Word) : (s.setBC w).mem = s.mem := rfl
@[simp] theorem State.setBC_bus (s : State) (w : Word) : (s.setBC w).bus = s.bus := rfl
@[simp] theorem State.setBC_accesses (s : State) (w : Word) : (s.setBC w).accesses = s.accesses := rfl
@[simp] theorem State.setBC_unusedWarn (s : State) (w : Word) : (s.setBC w).unusedWarn = s.unusedWarn := rfl

@[simp] theorem State.setDE_a (s : State) (w : Word) : (s.setDE w).a = s.a := rfl
@[simp] theorem State.setDE_b (s : State) (w : Word) : (s.setDE w).b = s.b := rfl
@[simp] theorem State.setDE_c (s : State) (w : Word) : (s.setDE w).c = s.c := rfl
@[simp] theorem State.setDE_d (s : State) (w : Word) : (s.setDE w).d = hi8 w := rfl
@[simp] theorem State.setDE_e (s : State) (w : Word) : (s.setDE w).e = lo8 w := rfl
@[simp] theorem State.setDE_f (s : State) (w : Word) : (s.setDE w).f = s.f := rfl
@[simp] theorem State.setDE_h (s : State) (w : Word) : (s.setDE w).h = s.h := rfl
@[simp] theorem State.setDE_l (s : State) (w : Word) : (s.setDE w).l = s.l := rfl
@[simp] theorem State.setDE_pc (s : State) (w : Word) : (s.setDE w).pc = s.pc := rfl
@[simp] theorem State.setDE_sp (s : State) (w : Word) : (s.setDE w).sp = s.sp := rfl
@[simp] theorem State.setDE_ime (s : State) (w : Word) : (s.setDE w).ime = s.ime := rfl
@[simp] theorem State.setDE_lastClockT (s : State) (w : Word) : (s.setDE w).lastClockT = s.lastClockT := rfl
@[simp] theorem State.setDE_lastClockM (s : State) (w : Word) : (s.setDE w).lastClockM = s.lastClockM := rfl
@[simp] theorem State.setDE_mem (s : State) (w : Word) : (s.setDE w).mem = s.mem := rfl
@[simp] theorem State.setDE_bus (s : State) (w : Word) : (s.setDE w).bus = s.bus := rfl
@[simp] theorem State.setDE_accesses (s : State) (w : Word) : (s.setDE w).accesses = s.accesses := rfl
@[simp] theorem State.setDE_unusedWarn (s : State) (w : Word) : (s.setDE w).unusedWarn = s.unusedWarn := rfl

@[simp] theorem State.setHL_a (s : State) (w : Word) : (s.setHL w).a = s.a := rfl
@[simp] theorem State.setHL_b (s : State) (w : Word) : (s.setHL w).b = s.b := rfl
@[simp] theorem State.setHL_c (s : State) (w : Word) : (s.setHL w).c = s.c := rfl
@[simp] theorem State.setHL_d (s : State) (w : Word) : (s.setHL w).d = s.d := rfl
@[simp] theorem State.setHL_e (s : State) (w : Word) : (s.setHL w).e = s.e := rfl
@[simp] theorem State.setHL_f (s : State) (w : Word) : (s.setHL w).f = s.f := rfl
@[simp] theorem State.setHL_h (s : State) (w : Word) : (s.setHL w).h = hi8 w := rfl
@[simp] theorem State.setHL_l (s : State) (w : Word) : (s.setHL w).l = lo8 w := rfl
@[simp] theorem State.setHL_pc (s : State) (w : Word) : (s.setHL w).pc = s.pc := rfl
@[simp] theorem State.setHL_sp (s : State) (w : Word) : (s.setHL w).sp = s.sp := rfl
@[simp] theorem State.setHL_ime (s : State) (w : Word) : (s.setHL w).ime = s.ime := rfl
@[simp] theorem State.setHL_lastClockT (s : State) (w : Word) : (s.setHL w).lastClockT = s.lastClockT := rfl
@[simp] theorem State.setHL_lastClockM (s : State) (w : Word) : (s.setHL w).lastClockM = s.lastClockM := rfl
@[simp] theorem State.setHL_mem (s : State) (w : Word) : (s.setHL w).mem = s.mem := rfl
@[simp] theorem State.setHL_bus (s : State) (w : Word) : (s.setHL w).bus = s.bus := rfl
@[simp] theorem State.setHL_accesses (s : State) (w : Word) : (s.setHL w).accesses = s.accesses := rfl
@[simp] theorem State.setHL_unusedWarn (s : State) (w : Word) : (s.setHL w).unusedWarn = s.unusedWarn := rfl

@[simp] theorem State.setAF_a (s : State) (w : Word) : (s.setAF w).a = hi8 w := rfl
@[simp] theorem State.setAF_b (s : State) (w : Word) : (s.setAF w).b = s.b := rfl
@[simp] theorem State.setAF_c (s : State) (w : Word) : (s.setAF w).c = s.c := rfl
@[simp] theorem State.setAF_d (s : State) (w : Word) : (s.setAF w).d = s.d := rfl
@[simp] theorem State.setAF_e (s : State) (w : Word) : (s.setAF w).e = s.e := rfl
@[simp] theorem State.setAF_f (s : State) (w : Word) : (s.setAF w).f = lo8 w &&& 0xF0#8 := rfl
@[simp] theorem State.setAF_h (s : State) (w : Word) : (s.setAF w).h = s.h := rfl
@[simp] theorem State.setAF_l (s : State) (w : Word) : (s.setAF w).l = s.l := rfl
@[simp] theorem State.setAF_pc (s : State) (w : Word) : (s.setAF w).pc = s.pc := rfl
@[simp] theorem State.setAF_sp (s : State) (w : Word) : (s.setAF w).sp = s.sp := rfl
@[simp] theorem State.setAF_ime (s : State) (w : Word) : (s.setAF w).ime = s.ime := rfl
@[simp] theorem State.setAF_lastClockT (s : State) (w : Word) : (s.setAF w).lastClockT = s.lastClockT := rfl
@[simp] theorem State.setAF_lastClockM (s : State) (w : Word) : (s.setAF w).lastClockM = s.lastClockM := rfl
@[simp] theorem State.setAF_mem (s : State) (w : Word) : (s.setAF w).mem = s.mem := rfl
@[simp] theorem State.setAF_bus (s : State) (w : Word) : (s.setAF w).bus = s.bus := rfl
@[simp] theorem State.setAF_accesses (s : State) (w : Word) : (s.setAF w).accesses = s.accesses := rfl
@[simp] theorem State.setAF_unusedWarn (s : State) (w : Word) : (s.setAF w).unusedWarn = s.unusedWarn := rfl

@[simp] theorem State.setBC_flag (s : State) (w : Word) (g : Flag) : (s.setBC w).flag g = s.flag g := rfl
@[simp] theorem State.setBC_accepts (s : State) (w : Word) (b : Word) : (s.setBC w).accepts b = s.accepts b := rfl
@[simp] theorem State.setBC_peek (s : State) (w : Word) (b : Word) : (s.setBC w).peek b = s.peek b := rfl
@[simp] theorem State.setBC_answer (s : State) (w : Word) (b : Word) : (s.setBC w).answer b = s.answer b := rfl
@[simp] theorem State.setDE_flag (s : State) (w : Word) (g : Flag) : (s.setDE w).flag g = s.flag g := rfl
@[simp] theorem State.setDE_accepts (s : State) (w : Word) (b : Word) : (s.setDE w).accepts b = s.accepts b := rfl
@[simp] theorem State.setDE_peek (s : State) (w : Word) (b : Word) : (s.setDE w).peek b = s.peek b := rfl
@[simp] theorem State.setDE_answer (s : State) (w : Word) (b : Word) : (s.setDE w).answer b = s.answer b := rfl
@[simp] theorem State.setHL_flag (s : State) (w : Word) (g : Flag) : (s.setHL w).flag g = s.flag g := rfl
@[simp] theorem State.setHL_accepts (s : State) (w : Word) (b : Word) : (s.setHL w).accepts b = s.accepts b := rfl
@[simp] theorem State.setHL_peek (s : State) (w : Word) (b : Word) : (s.setHL w).peek b = s.peek b := rfl
@[simp] theorem State.setHL_answer (s : State) (w : Word) (b : Word) : (s.setHL w).answer b = s.answer b := rfl
@[simp] theorem State.setAF_accepts (s : State) (w : Word) (b : Word) : (s.setAF w).accepts b = s.accepts b := rfl
@[simp] theorem State.setAF_peek (s : State) (w : Word) (b : Word) : (s.setAF w).peek b = s.peek b := rfl
@[simp] theorem State.setAF_answer (s : State) (w : Word) (b : Word) : (s.setAF w).answer b = s.answer b := rfl
@[simp] theorem State.writeWord_a (s : State) (a w : Word) : (s.writeWord a w).a = s.a := rfl
@[simp] theorem State.writeWord_b (s : State) (a w : Word) : (s.writeWord a w).b = s.b := rfl
@[simp] theorem State.writeWord_c (s : State) (a w : Word) : (s.writeWord a w).c = s.c := rfl
@[simp] theorem State.writeWord_d (s : State) (a w : Word) : (s.writeWord a w).d = s.d := rfl
@[simp] theorem State.writeWord_e (s : State) (a w : Word) : (s.writeWord a w).e = s.e := rfl
@[simp] theorem State.writeWord_f (s : State) (a w : Word) : (s.writeWord a w).f = s.f := rfl
@[simp] theorem State.writeWord_h (s : State) (a w : Word) : (s.writeWord a w).h = s.h := rfl
@[simp] theorem State.writeWord_l (s : State) (a w : Word) : (s.writeWord a w).l = s.l := rfl
@[simp] theorem State.writeWord_pc (s : State) (a w : Word) : (s.writeWord a w).pc = s.pc := rfl
@[simp] theorem State.writeWord_sp (s : State) (a w : Word) : (s.writeWord a w).sp = s.sp := rfl
@[simp] theorem State.writeWord_ime (s : State) (a w : Word) : (s.writeWord a w).ime = s.ime := rfl
@[simp] theorem State.writeWord_lastClockT (s : State) (a w : Word) : (s.writeWord a w).lastClockT = s.lastClockT := rfl
@[simp] theorem State.writeWord_lastClockM (s : State) (a w : Word) : (s.writeWord a w).lastClockM = s.lastClockM := rfl
@[simp] theorem State.writeWord_bus (s : State) (a w : Word) : (s.writeWord a w).bus = (s.bus.after (.write a (lo8 w))).after (.write (a + 1#16) (hi8 w)) := rfl
@[simp] theorem State.writeWord_unusedWarn (s : State) (a w : Word) : (s.writeWord a w).unusedWarn = s.unusedWarn := rfl

@[simp] theorem State.writeWord_accesses (s : State) (a w : Word) : (s.writeWord a w).accesses =
    s.accesses ++ [.write a (lo8 w), .write (a + 1#16) (hi8 w)] := by simp [State.writeWord]
@[simp] theorem State.writeWord_r8 (s : State) (a w : Word) (r : Reg8) : (s.writeWord a w).r8 r = s.r8 r := by cases r <;> rfl
@[simp] theorem State.writeWord_bc (s : State) (a w : Word) : (s.writeWord a w).bc = s.bc := rfl
@[simp] theorem State.writeWord_de (s : State) (a w : Word) : (s.writeWord a w).de = s.de := rfl
@[simp] theorem State.writeWord_hl (s : State) (a w : Word) : (s.writeWord a w).hl = s.hl := rfl
@[simp] theorem State.writeWord_flag (s : State) (a w : Word) (g : Flag) : (s.writeWord a w).flag g = s.flag g := rfl
@[simp] theorem State.writeWord_cond (s : State) (a w : Word) (cc : Cond) : (s.writeWord a w).cond cc = s.cond cc := rfl
@[simp] theorem State.writeWord_accepts (s : State) (a w : Word) (b : Word) : (s.writeWord a w).accepts b = s.accepts b := by simp [State.accepts]
@[simp] theorem State.push16_a (s : State) (w : Word) : (s.push16 w).a = s.a := rfl
@[simp] theorem State.push16_b (s : State) (w : Word) : (s.push16 w).b = s.b := rfl
@[simp] theorem State.push16_c (s : State) (w : Word) : (s.push16 w).c = s.c := rfl
@[simp] theorem State.push16_d (s : State) (w : Word) : (s.push16 w).d = s.d := rfl
@[simp] theorem State.push16_e (s : State) (w : Word) : (s.push16 w).e = s.e := rfl
@[simp] theorem State.push16_f (s : State) (w : Word) : (s.push16 w).f = s.f := rfl
@[simp] theorem State.push16_h (s : State) (w : Word) : (s.push16 w).h = s.h := rfl
@[simp] theorem State.push16_l (s : State) (w : Word) : (s.push16 w).l = s.l := rfl
@[simp] theorem State.push16_pc (s : State) (w : Word) : (s.push16 w).pc = s.pc := rfl
@[simp] theorem State.push16_sp (s : State) (w : Word) : (s.push16 w).sp = s.sp - 2#16 := rfl
@[simp] theorem State.push16_ime (s : State) (w : Word) : (s.push16 w).ime = s.ime := rfl
@[simp] theorem State.push16_lastClockT (s : State) (w : Word) : (s.push16 w).lastClockT = s.lastClockT := rfl
@[simp] theorem State.push16_lastClockM (s : State) (w : Word) : (s.push16 w).lastClockM = s.lastClockM := rfl
@[simp] theorem State.push16_bus (s : State) (w : Word) : (s.push16 w).bus = (s.bus.after (.write (s.sp - 2#16) (lo8 w))).after (.write (s.sp - 2#16 + 1#16) (hi8 w)) := rfl
@[simp] theorem State.push16_unusedWarn (s : State) (w : Word) : (s.push16 w).unusedWarn = s.unusedWarn := rfl

@[simp] theorem State.push16_accesses (s : State) (w : Word) : (s.push16 w).accesses =
    s.accesses ++ [.write (s.sp - 2#16) (lo8 w), .write (s.sp - 2#16 + 1#16) (hi8 w)] := by simp [State.push16]
@[simp] theorem State.push16_r8 (s : State) (w : Word) (r : Reg8) : (s.push16 w).r8 r = s.r8 r := by cases r <;> rfl
@[simp] theorem State.push16_bc (s : State) (w : Word) : (s.push16 w).bc = s.bc := rfl
@[simp] theorem State.push16_de (s : State) (w : Word) : (s.push16 w).de = s.de := rfl
@[simp] theorem State.push16_hl (s : State) (w : Word) : (s.push16 w).hl = s.hl := rfl
@[simp] theorem State.push16_flag (s : State) (w : Word) (g : Flag) : (s.push16 w).flag g = s.flag g := rfl
@[simp] theorem State.push16_cond (s : State) (w : Word) (cc : Cond) : (s.push16 w).cond cc = s.cond cc := rfl
@[simp] theorem State.push16_accepts (s : State) (w : Word) (b : Word) : (s.push16 w).accepts b = s.accepts b := by simp [State.accepts]


end Sys2Proof.Machine
end

