-- ==== Sys2Proof/Laws/Ops.lean ====
section
/-! SUPPORT. What each shared operation over memory, the stream and the stack does, said once; later proofs cite these and
do not unfold the operations. -/
namespace Sys2Proof.Machine

/-! Reading memory depends on memory alone. -/

/-- Two states with the same memory read the same byte everywhere. -/
theorem State.peek_congr (s t : State) (h : t.mem = s.mem) (a : Word) : t.peek a = s.peek a := by
  simp [State.peek, h]

/-! One byte on the bus. -/

/-- A read answers what the bus answers, and changes nothing but the record of accesses and the bus. -/
theorem State.readByte_eq (s : State) (a : Word) : s.readByte a = (s.answer a, s.issued (.read a (s.answer a))) := rfl

/-- At an address that is plain memory the bus answers the byte there (20_memory.md R67). -/
theorem State.answer_ram (s : State) (a : Word) (h : s.bus.isRam a = true) : s.answer a = s.peek a :=
  Bus.answer_ram _ _ _ h

/-- Issuing a read of plain memory leaves the bus as it is. -/
theorem State.issued_bus_ram (s : State) (x : Access) (h : s.bus.isRam x.addr = true) : (s.issued x).bus = s.bus :=
  Bus.after_of_isRam _ _ h

/-- A write, seen through reads: the byte written where the bus accepts it, every other byte as before. -/
theorem State.writeByte_peek (s : State) (a b : Word) (v : Byte) (h : Memory.wf s.mem = true) :
    (s.writeByte a v).peek b = if b = a ∧ s.accepts a = true then v else s.peek b := by
  simp only [State.peek, State.writeByte_mem]
  by_cases ha : s.accepts a = true
  · simp only [ha, if_true, and_true]
    rw [Memory.read_write _ _ _ _ h]
    simp only [BitVec.toNat_inj]
  · simp [ha]

/-- A write leaves every other byte alone, whatever the memory. -/
theorem State.writeByte_peek_other (s : State) (a b : Word) (v : Byte) (h : b ≠ a) :
    (s.writeByte a v).peek b = s.peek b := by
  simp only [State.peek, State.writeByte_mem]
  split
  · exact Memory.read_write_other _ _ _ _ (fun hn => h (BitVec.eq_of_toNat_eq hn))
  · rfl

/-- A write the bus ignores leaves memory alone. -/
theorem State.writeByte_ignored (s : State) (a : Word) (v : Byte) (h : s.accepts a = false) :
    (s.writeByte a v).mem = s.mem := by simp [h]

/-- A write keeps the canonical form. -/
theorem State.writeByte_wf (s : State) (a : Word) (v : Byte) (h : Memory.wf s.mem = true) :
    Memory.wf (s.writeByte a v).mem = true := by
  rw [State.writeByte_mem]
  split
  · exact Memory.wf_write _ _ _ h
  · exact h

/-- Placing a byte from outside keeps the canonical form. -/
theorem State.place_wf (s : State) (a : Word) (v : Byte) (h : Memory.wf s.mem = true) :
    Memory.wf (s.place a v).mem = true := Memory.wf_write _ _ _ h

/-- Placing a byte from outside, seen through reads. -/
theorem State.place_peek (s : State) (a b : Word) (v : Byte) (h : Memory.wf s.mem = true) :
    (s.place a v).peek b = if b = a then v else s.peek b := by
  simp only [State.peek, State.place_mem]
  rw [Memory.read_write _ _ _ _ h]
  simp only [BitVec.toNat_inj]

/-! Placing a byte where a fetch reads it. -/

/-- Making an address plain memory changes the bus alone. -/
theorem State.mapRam_eq (s : State) (a : Word) : s.mapRam a = { s with bus := (s.mapRam a).bus } := by
  unfold State.mapRam
  split <;> rfl

/-- Afterwards that address is plain memory, and every address that was so still is. -/
theorem State.mapRam_isRam (s : State) (a b : Word) (h : b = a ∨ s.bus.isRam b = true) :
    (s.mapRam a).bus.isRam b = true := by
  unfold State.mapRam
  split
  · next ha => exact h.elim (fun e => e ▸ ha) id
  · simp only [Bus.isRam, inRanges, List.any_cons, Bool.or_eq_true] at h ⊢
    exact h.imp (fun e => by simp [e, AddrRange.contains]) id

/-- Placing code changes memory and the bus alone. -/
theorem State.placeCode_eq (s : State) (a : Word) (v : Byte) :
    s.placeCode a v = { s with bus := (s.mapRam a).bus, mem := Memory.write s.mem a.toNat v } := by
  unfold State.placeCode
  rw [State.mapRam_eq]
  rfl

@[simp] theorem State.placeCode_pc (s : State) (a : Word) (v : Byte) : (s.placeCode a v).pc = s.pc := by
  rw [State.placeCode_eq]

theorem State.placeCode_isRam (s : State) (a b : Word) (v : Byte) (h : b = a ∨ s.bus.isRam b = true) :
    (s.placeCode a v).bus.isRam b = true := by
  rw [State.placeCode_eq]
  exact s.mapRam_isRam a b h

theorem State.placeCode_wf (s : State) (a : Word) (v : Byte) (h : Memory.wf s.mem = true) :
    Memory.wf (s.placeCode a v).mem = true := by
  rw [State.placeCode_eq]
  exact Memory.wf_write _ _ _ h

theorem State.placeCode_peek (s : State) (a b : Word) (v : Byte) (h : Memory.wf s.mem = true) :
    (s.placeCode a v).peek b = if b = a then v else s.peek b := by
  rw [State.placeCode_eq]
  exact s.place_peek a b v h

/-! Words. -/

/-- An address and the next are never the same. -/
theorem succ_ne (a : Word) : a + 1#16 ≠ a := by
  intro h
  have := congrArg BitVec.toNat h
  simp only [BitVec.toNat_add, BitVec.toNat_ofNat] at this
  have := a.isLt
  omega

/-- `ReadWord`: the word, and the two reads in their order; the second answer is the bus's after the first. -/
theorem State.readWord_eq (s : State) (a : Word) :
    s.readWord a =
      (mkWord ((s.issued (.read a (s.answer a))).answer (a + 1#16)) (s.answer a),
        (s.issued (.read a (s.answer a))).issued
          (.read (a + 1#16) ((s.issued (.read a (s.answer a))).answer (a + 1#16)))) := rfl

/-- A word of plain memory is its two bytes. -/
theorem State.readWord_ram (s : State) (a : Word) (h : s.bus.isRam a = true) (h1 : s.bus.isRam (a + 1#16) = true) :
    (s.readWord a).1 = mkWord (s.peek (a + 1#16)) (s.peek a) := by
  rw [State.readWord_eq]
  simp only
  rw [State.answer_ram _ (a + 1#16) (by simpa using h1), State.answer_ram s a h, State.issued_peek]

/-- `WriteWord`, seen through reads. -/
theorem State.writeWord_peek (s : State) (a b w : Word) (h : Memory.wf s.mem = true) :
    (s.writeWord a w).peek b =
      if b = a + 1#16 ∧ s.accepts (a + 1#16) = true then hi8 w
      else if b = a ∧ s.accepts a = true then lo8 w else s.peek b := by
  rw [State.writeWord, State.writeByte_peek _ _ _ _ (s.writeByte_wf a _ h), State.writeByte_peek _ _ _ _ h,
    State.writeByte_accepts]

/-- `WriteWord` leaves every other byte alone. -/
theorem State.writeWord_peek_other (s : State) (a b w : Word) (h : b ≠ a) (h1 : b ≠ a + 1#16) :
    (s.writeWord a w).peek b = s.peek b := by
  rw [State.writeWord, State.writeByte_peek_other _ _ _ _ h1, State.writeByte_peek_other _ _ _ _ h]

theorem State.writeWord_wf (s : State) (a w : Word) (h : Memory.wf s.mem = true) :
    Memory.wf (s.writeWord a w).mem = true := State.writeByte_wf _ _ _ (State.writeByte_wf _ _ _ h)

/-- What `WriteWord` changes besides memory: it records two writes. -/
theorem State.writeWord_eq (s : State) (a w : Word) :
    s.writeWord a w =
      { s with mem := (s.writeWord a w).mem
               bus := (s.bus.after (.write a (lo8 w))).after (.write (a + 1#16) (hi8 w))
               accesses := s.accesses ++ [.write a (lo8 w), .write (a + 1#16) (hi8 w)] } := by
  simp [State.writeWord, State.writeByte]

/-- `WriteWord` changes neither which addresses are plain memory nor which of them ignore writes. -/
@[simp] theorem State.writeWord_bus_map (s : State) (a w : Word) : (s.writeWord a w).bus.map = s.bus.map := by
  rw [State.writeWord_eq]
  simp

/-! The instruction stream. -/

/-- `Fetch8`. -/
theorem State.fetch8_eq (s : State) :
    s.fetch8 = (s.answer s.pc, (s.issued (.read s.pc (s.answer s.pc))).setPC (s.pc + 1#16)) := rfl

/-- `Fetch16`. -/
theorem State.fetch16_eq (s : State) :
    s.fetch16 = ((s.readWord s.pc).1, (s.readWord s.pc).2.setPC (s.pc + 2#16)) := rfl

/-- A handler that fetches the operand byte it was decoded with does what `Fetch8` does. -/
theorem State.operand8_eq_fetch8 (s : State) (v : Byte) (h : s.answer s.pc = v) : s.operand8 v = s.fetch8.2 := by
  rw [State.fetch8_eq, h, State.operand8]

/-- A handler that fetches the operand word it was decoded with does what `Fetch16` does. -/
theorem State.operand16_eq_fetch16 (s : State) (w : Word) (h : (s.readWord s.pc).1 = w) :
    s.operand16 w = s.fetch16.2 := by
  subst h
  simp only [State.fetch16_eq, State.readWord_eq, State.operand16, lo8_mkWord, hi8_mkWord]

/-! The stack. -/

/-- `Push16`. -/
theorem State.push16_eq (s : State) (w : Word) :
    s.push16 w = (s.setSP (s.sp - 2#16)).writeWord (s.sp - 2#16) w := rfl

/-- `Pop16`. -/
theorem State.pop16_eq (s : State) : s.pop16 = ((s.readWord s.sp).1, (s.readWord s.sp).2.setSP (s.sp + 2#16)) := rfl

theorem State.push16_wf (s : State) (w : Word) (h : Memory.wf s.mem = true) :
    Memory.wf (s.push16 w).mem = true := State.writeWord_wf _ _ _ h

end Sys2Proof.Machine
end

