-- ==== Sys2Proof/Laws/Operands.lean ====
section
/-! SUPPORT. Reading an operand after writing one: registers, pairs and the `r` field. -/
namespace Sys2Proof.Machine

theorem State.setR8_r8 (s : State) (d r : Reg8) (v : Byte) : (s.setR8 d v).r8 r = if r = d then v else s.r8 r := by
  cases d <;> cases r <;> rfl

@[simp] theorem State.setR8_r8_same (s : State) (d : Reg8) (v : Byte) : (s.setR8 d v).r8 d = v := by cases d <;> rfl

theorem State.setR8_r8_other (s : State) (d r : Reg8) (v : Byte) (h : r ≠ d) : (s.setR8 d v).r8 r = s.r8 r := by
  rw [State.setR8_r8, if_neg h]

/-! Writing a register changes nothing outside the registers. -/

@[simp] theorem State.setR8_f (s : State) (d : Reg8) (v : Byte) : (s.setR8 d v).f = s.f := by cases d <;> rfl
@[simp] theorem State.setR8_pc (s : State) (d : Reg8) (v : Byte) : (s.setR8 d v).pc = s.pc := by cases d <;> rfl
@[simp] theorem State.setR8_sp (s : State) (d : Reg8) (v : Byte) : (s.setR8 d v).sp = s.sp := by cases d <;> rfl
@[simp] theorem State.setR8_ime (s : State) (d : Reg8) (v : Byte) : (s.setR8 d v).ime = s.ime := by cases d <;> rfl
@[simp] theorem State.setR8_lastClockT (s : State) (d : Reg8) (v : Byte) : (s.setR8 d v).lastClockT = s.lastClockT := by cases d <;> rfl
@[simp] theorem State.setR8_lastClockM (s : State) (d : Reg8) (v : Byte) : (s.setR8 d v).lastClockM = s.lastClockM := by cases d <;> rfl
@[simp] theorem State.setR8_mem (s : State) (d : Reg8) (v : Byte) : (s.setR8 d v).mem = s.mem := by cases d <;> rfl
@[simp] theorem State.setR8_bus (s : State) (d : Reg8) (v : Byte) : (s.setR8 d v).bus = s.bus := by cases d <;> rfl
@[simp] theorem State.setR8_accesses (s : State) (d : Reg8) (v : Byte) : (s.setR8 d v).accesses = s.accesses := by cases d <;> rfl
@[simp] theorem State.setR8_unusedWarn (s : State) (d : Reg8) (v : Byte) : (s.setR8 d v).unusedWarn = s.unusedWarn := by cases d <;> rfl
@[simp] theorem State.setR8_flag (s : State) (d : Reg8) (v : Byte) (g : Flag) : (s.setR8 d v).flag g = s.flag g := by
  cases d <;> rfl
@[simp] theorem State.setR8_peek (s : State) (d : Reg8) (v : Byte) (b : Word) : (s.setR8 d v).peek b = s.peek b := by
  cases d <;> rfl
@[simp] theorem State.setR8_accepts (s : State) (d : Reg8) (v : Byte) (b : Word) :
    (s.setR8 d v).accepts b = s.accepts b := by cases d <;> rfl

@[simp] theorem State.setBC_bc (s : State) (w : Word) : (s.setBC w).bc = w := mkWord_hi8_lo8 w
@[simp] theorem State.setDE_de (s : State) (w : Word) : (s.setDE w).de = w := mkWord_hi8_lo8 w
@[simp] theorem State.setHL_hl (s : State) (w : Word) : (s.setHL w).hl = w := mkWord_hi8_lo8 w

/-! The bytes of the pair views. -/

@[simp] theorem State.hi8_hl (s : State) : hi8 s.hl = s.h := hi8_mkWord _ _
@[simp] theorem State.lo8_hl (s : State) : lo8 s.hl = s.l := lo8_mkWord _ _

/-- Writing a pair and reading it back (30_encoding.md R84). -/
@[simp] theorem State.setR16_r16_same (s : State) (rr : Pair) (w : Word) : (s.setR16 rr w).r16 rr = w := by
  cases rr
  · exact mkWord_hi8_lo8 w
  · exact mkWord_hi8_lo8 w
  · exact mkWord_hi8_lo8 w
  · rfl

/-! Writing a pair changes nothing but its registers. -/

@[simp] theorem State.setR16_a (s : State) (rr : Pair) (w : Word) : (s.setR16 rr w).a = s.a := by cases rr <;> rfl
@[simp] theorem State.setR16_f (s : State) (rr : Pair) (w : Word) : (s.setR16 rr w).f = s.f := by cases rr <;> rfl
@[simp] theorem State.setR16_pc (s : State) (rr : Pair) (w : Word) : (s.setR16 rr w).pc = s.pc := by cases rr <;> rfl
@[simp] theorem State.setR16_ime (s : State) (rr : Pair) (w : Word) : (s.setR16 rr w).ime = s.ime := by cases rr <;> rfl
@[simp] theorem State.setR16_lastClockT (s : State) (rr : Pair) (w : Word) : (s.setR16 rr w).lastClockT = s.lastClockT := by cases rr <;> rfl
@[simp] theorem State.setR16_lastClockM (s : State) (rr : Pair) (w : Word) : (s.setR16 rr w).lastClockM = s.lastClockM := by cases rr <;> rfl
@[simp] theorem State.setR16_mem (s : State) (rr : Pair) (w : Word) : (s.setR16 rr w).mem = s.mem := by cases rr <;> rfl
@[simp] theorem State.setR16_bus (s : State) (rr : Pair) (w : Word) : (s.setR16 rr w).bus = s.bus := by cases rr <;> rfl
@[simp] theorem State.setR16_accesses (s : State) (rr : Pair) (w : Word) : (s.setR16 rr w).accesses = s.accesses := by cases rr <;> rfl
@[simp] theorem State.setR16_unusedWarn (s : State) (rr : Pair) (w : Word) : (s.setR16 rr w).unusedWarn = s.unusedWarn := by cases rr <;> rfl
@[simp] theorem State.setR16_flag (s : State) (rr : Pair) (w : Word) (g : Flag) : (s.setR16 rr w).flag g = s.flag g := by
  cases rr <;> rfl
@[simp] theorem State.setR16_peek (s : State) (rr : Pair) (w : Word) (b : Word) : (s.setR16 rr w).peek b = s.peek b := by
  cases rr <;> rfl

theorem State.setR16_sp (s : State) (rr : Pair) (w : Word) (h : rr ≠ .SP) : (s.setR16 rr w).sp = s.sp := by
  cases rr <;> first | rfl | exact absurd rfl h

/-- Writing a stack pair other than `AF` and reading it back; for `AF` the low nibble is masked (10_state.md R22). -/
theorem State.setR16s_r16s_same (s : State) (rr : StackPair) (w : Word) (h : rr = .AF → lo8 w &&& 0x0F#8 = 0#8) :
    (s.setR16s rr w).r16s rr = w := by
  cases rr
  · exact mkWord_hi8_lo8 w
  · exact mkWord_hi8_lo8 w
  · exact mkWord_hi8_lo8 w
  · have hm : ∀ b : Byte, b &&& 0x0F#8 = 0#8 → b &&& 0xF0#8 = b := by decide
    show mkWord (hi8 w) (lo8 w &&& 0xF0#8) = w
    rw [hm _ (h rfl), mkWord_hi8_lo8]

/-- Reading an operand: the value, and at most one read. -/
theorem State.readOpnd_reg (s : State) (r : Reg8) : s.readOpnd (.reg r) = (s.r8 r, s) := rfl
theorem State.readOpnd_atHL (s : State) :
    s.readOpnd .atHL = (s.answer s.hl, s.issued (.read s.hl (s.answer s.hl))) := rfl
theorem State.writeOpnd_reg (s : State) (r : Reg8) (v : Byte) : s.writeOpnd (.reg r) v = s.setR8 r v := rfl
theorem State.writeOpnd_atHL (s : State) (v : Byte) : s.writeOpnd .atHL v = s.writeByte s.hl v := rfl

/-- The high page is `0xFF00` to `0xFFFF` (20_memory.md R60). -/
theorem highPage_toNat (o : Byte) : (highPage o).toNat = 0xFF00 + o.toNat := by
  revert o
  decide

end Sys2Proof.Machine
end

