-- ==== Sys2Proof/Laws/Step.lean ====
section
/-! SUPPORT. The fetch of a step: handler entry field by field, and where a placed word ends up. -/
namespace Sys2Proof.Machine

/-- A step runs the form of the instruction at `PC`, from handler entry. -/
theorem step_eq_execForm (s : State) :
    step s = execForm (decodeForm s.bytesAtPC.1 s.bytesAtPC.2.1 s.bytesAtPC.2.2) s.handlerEntry := by
  rw [step, State.fetchInstr, decode3, exec_instr]

/-- Handler entry of an opcode of the base table: one byte fetched. -/
theorem State.handlerEntry_base (s : State) (h : s.answer s.pc ≠ Config.prefixByte) :
    s.handlerEntry = (s.beginStep.issued (.read s.pc (s.answer s.pc))).setPC (s.pc + 1#16) := by
  rw [State.handlerEntry, if_neg h]
  rfl

/-- Handler entry of an extended opcode: two bytes fetched. -/
theorem State.handlerEntry_prefix (s : State) (h : s.answer s.pc = Config.prefixByte) :
    s.handlerEntry =
      ((s.beginStep.issued (.read s.pc (s.answer s.pc))).issued
        (.read (s.pc + 1#16) ((s.issued (.read s.pc (s.answer s.pc))).answer (s.pc + 1#16)))).setPC (s.pc + 1#16 + 1#16) := by
  rw [State.handlerEntry, if_pos h]
  rfl

/-- What handler entry leaves of the state: everything but `PC`, the record of accesses and the strobe. -/
theorem State.handlerEntry_rest (s : State) :
    (∀ r, s.handlerEntry.r8 r = s.r8 r) ∧ s.handlerEntry.f = s.f ∧ s.handlerEntry.sp = s.sp ∧
      s.handlerEntry.ime = s.ime ∧ s.handlerEntry.mem = s.mem ∧ s.handlerEntry.bus.map = s.bus.map ∧
      s.handlerEntry.unusedWarn = false := by
  by_cases h : s.answer s.pc = Config.prefixByte
  · rw [State.handlerEntry_prefix s h]
    exact ⟨fun r => by cases r <;> simp [State.r8], by simp, by simp, by simp, by simp, by simp, by simp⟩
  · rw [State.handlerEntry_base s h]
    exact ⟨fun r => by cases r <;> simp [State.r8], by simp, by simp, by simp, by simp, by simp, by simp⟩

/-- On plain memory the bytes a fetch gets are the bytes in memory. -/
theorem State.bytesAtPC_ram (s : State) (h0 : s.bus.isRam s.pc = true) (h1 : s.bus.isRam (s.pc + 1#16) = true)
    (h2 : s.bus.isRam (s.pc + 1#16 + 1#16) = true) :
    s.bytesAtPC = (s.peek s.pc, s.peek (s.pc + 1#16), s.peek (s.pc + 1#16 + 1#16)) := by
  simp only [State.bytesAtPC, State.fetch8_eq, State.setPC_pc, State.setPC_answer]
  rw [State.answer_ram _ (s.pc + 1#16 + 1#16) (by simpa using h2), State.answer_ram _ (s.pc + 1#16) (by simpa using h1),
    State.answer_ram s s.pc h0]
  rfl

/-- The three bytes placed at `PC` are the bytes the next step fetches, on every bus. -/
theorem State.placeAtPC_bytesAtPC (s : State) (b0 b1 b2 : Byte) (h : Memory.wf s.mem = true) :
    (s.placeAtPC b0 b1 b2).bytesAtPC = (b0, b1, b2) := by
  have n1 : s.pc + 1#16 ≠ s.pc := succ_ne _
  have e2 : s.pc + 1#16 + 1#16 = s.pc + 2#16 := by rw [BitVec.add_assoc]; rfl
  have n3 : s.pc + 2#16 ≠ s.pc + 1#16 := e2 ▸ succ_ne (s.pc + 1#16)
  have n2 : s.pc + 2#16 ≠ s.pc := by
    intro hn
    have := congrArg BitVec.toNat hn
    simp only [BitVec.toNat_add, BitVec.toNat_ofNat] at this
    have := s.pc.isLt
    omega
  have h1 := s.placeCode_wf s.pc b0 h
  have h2 := State.placeCode_wf _ (s.pc + 1#16) b1 h1
  have hp : (s.placeAtPC b0 b1 b2).pc = s.pc := by simp [State.placeAtPC]
  have r0 : (s.placeAtPC b0 b1 b2).bus.isRam s.pc = true :=
    State.placeCode_isRam _ _ _ _ (.inr (State.placeCode_isRam _ _ _ _ (.inr (State.placeCode_isRam _ _ _ _ (.inl rfl)))))
  have r1 : (s.placeAtPC b0 b1 b2).bus.isRam (s.pc + 1#16) = true :=
    State.placeCode_isRam _ _ _ _ (.inr (State.placeCode_isRam _ _ _ _ (.inl rfl)))
  have r2 : (s.placeAtPC b0 b1 b2).bus.isRam (s.pc + 2#16) = true := State.placeCode_isRam _ _ _ _ (.inl rfl)
  rw [State.bytesAtPC_ram _ (by rw [hp]; exact r0) (by rw [hp]; exact r1) (by rw [hp, e2]; exact r2), hp, e2]
  simp only [State.placeAtPC, State.placeCode_peek _ _ _ _ h2, State.placeCode_peek _ _ _ _ h1,
    State.placeCode_peek _ _ _ _ h, n1.symm, n2.symm, n3.symm, if_false, if_true]

end Sys2Proof.Machine
end

