-- ==== Sys2Proof/Laws/Reads.lean ====
section
/-! SUPPORT. Reads issued one after the other: what the bus answers to each, the word at an address, and the bytes of the
instruction at `PC` as a step reads them. -/
namespace Sys2Proof.Machine

@[simp] theorem State.answerAfter_nil (s : State) (a : Word) : s.answerAfter [] a = s.answer a := rfl

/-- What the bus answers once one more read has been issued. -/
theorem State.answerAfter_singleton (s : State) (x : Access) (a : Word) :
    s.answerAfter [x] a = (s.issued x).answer a := rfl

/-! Several reads. -/

@[simp] theorem Bus.readsOf_nil (b : Bus) (mem : Memory) : b.readsOf mem [] = [] := rfl

theorem Bus.readsOf_append (b : Bus) (mem : Memory) (as bs : List Word) :
    b.readsOf mem (as ++ bs) = b.readsOf mem as ++ (b.afterAll (b.readsOf mem as)).readsOf mem bs := by
  induction as generalizing b with
  | nil => rfl
  | cons a as ih => simp only [List.cons_append, Bus.readsOf, ih, Bus.afterAll_cons]

@[simp] theorem Bus.readsOf_length (b : Bus) (mem : Memory) (as : List Word) : (b.readsOf mem as).length = as.length := by
  induction as generalizing b with
  | nil => rfl
  | cons a as ih => simp [Bus.readsOf, ih]

@[simp] theorem State.readsOf_nil (s : State) : s.readsOf [] = [] := rfl

theorem State.readsOf_cons (s : State) (a : Word) (as : List Word) :
    s.readsOf (a :: as) = .read a (s.answer a) :: (s.issued (.read a (s.answer a))).readsOf as := rfl

@[simp] theorem State.readsOf_singleton (s : State) (a : Word) : s.readsOf [a] = [.read a (s.answer a)] := rfl

/-- Reads from a state in which the bus has seen `as`' reads and memory is the same. -/
theorem State.readsOf_append (s t : State) (as bs : List Word) (hb : t.bus = s.bus.afterAll (s.readsOf as))
    (hm : t.mem = s.mem) : s.readsOf (as ++ bs) = s.readsOf as ++ t.readsOf bs := by
  simp only [State.readsOf, Bus.readsOf_append, hb, hm]

/-- The two reads of a word. -/
theorem State.wordReadsAt_eq (s : State) (a : Word) : s.wordReadsAt a = s.readsOf [a, a + 1#16] := rfl

/-- A list of reads holds no write. -/
@[simp] theorem writeCount_readsOf (s : State) (as : List Word) : writeCount (s.readsOf as) = 0 := by
  induction as generalizing s with
  | nil => rfl
  | cons a as ih =>
    have := ih (s.issued (.read a (s.answer a)))
    simpa [State.readsOf_cons, writeCount, Access.isWrite] using this

@[simp] theorem readCount_readsOf (s : State) (as : List Word) : readCount (s.readsOf as) = as.length := by
  induction as generalizing s with
  | nil => rfl
  | cons a as ih =>
    have := ih (s.issued (.read a (s.answer a)))
    simpa [State.readsOf_cons, readCount, Access.isWrite] using this

/-! The word the bus answers. -/

/-- `ReadWord`, as a number. -/
theorem State.readWord_toNat (s : State) (a : Word) : (s.readWord a).1.toNat = s.wordAt a := by
  rw [State.readWord_eq, mkWord_toNat]
  rfl

/-- `ReadWord` issues its two reads and changes nothing else. -/
theorem State.readWord_state (s : State) (a : Word) :
    (s.readWord a).2 =
      { s with accesses := s.accesses ++ s.wordReadsAt a, bus := s.bus.afterAll (s.wordReadsAt a) } := by
  simp only [State.readWord_eq, State.issued, State.wordReadsAt, List.append_assoc, List.cons_append, List.nil_append]
  rfl

/-- `Pop16`, as a number. -/
theorem State.pop16_toNat (s : State) : s.pop16.1.toNat = s.wordAt s.sp := s.readWord_toNat _

/-- `Pop16` issues its two reads, moves `SP` and changes nothing else. -/
theorem State.pop16_state (s : State) :
    s.pop16.2 =
      { s with sp := s.sp + 2#16, accesses := s.accesses ++ s.wordReadsAt s.sp
               bus := s.bus.afterAll (s.wordReadsAt s.sp) } := by
  rw [State.pop16_eq, State.readWord_state, State.setSP]

/-- The two bytes of the word. -/
theorem State.readWord_bytes (s : State) (a : Word) :
    lo8 (s.readWord a).1 = s.answer a ∧ hi8 (s.readWord a).1 = s.answerAfter [.read a (s.answer a)] (a + 1#16) := by
  rw [State.readWord_eq]
  exact ⟨lo8_mkWord _ _, hi8_mkWord _ _⟩

/-- On plain memory it is the word in memory. -/
theorem State.wordAt_ram (s : State) (a : Word) (h : s.bus.isRam a = true) (h1 : s.bus.isRam (a + 1#16) = true) :
    s.wordAt a = (s.peek (a + 1#16)).toNat * 256 + (s.peek a).toNat := by
  rw [← State.readWord_toNat, State.readWord_ram s a h h1, mkWord_toNat]

/-! The instruction at `PC`. -/

@[simp] theorem State.streamReads_zero (s : State) : s.streamReads 0 = [] := rfl

/-- One more byte of the stream is one more read. -/
theorem State.streamReads_succ (s : State) (n : Nat) :
    s.streamReads (n + 1) = s.streamReads n ++ [.read (s.pc + BitVec.ofNat 16 n) (s.streamByte n)] := by
  simp only [State.streamReads, State.streamAddrs, List.range_succ, List.map_append, State.readsOf, Bus.readsOf_append]
  rfl

theorem State.streamByte_zero (s : State) : s.streamByte 0 = s.answer s.pc := by
  simp [State.streamByte]

theorem State.streamReads_one (s : State) : s.streamReads 1 = [.read s.pc (s.answer s.pc)] := by
  rw [State.streamReads_succ, State.streamByte_zero]
  simp

theorem State.streamReads_two (s : State) :
    s.streamReads 2 = [.read s.pc (s.answer s.pc), .read (s.pc + 1#16) (s.streamByte 1)] := by
  rw [State.streamReads_succ, State.streamReads_one]
  rfl

theorem State.streamReads_three (s : State) :
    s.streamReads 3 = [.read s.pc (s.answer s.pc), .read (s.pc + 1#16) (s.streamByte 1),
      .read (s.pc + 2#16) (s.streamByte 2)] := by
  rw [State.streamReads_succ, State.streamReads_two]
  rfl

/-- The bytes a fetch decodes are the first three of the stream. -/
theorem State.bytesAtPC_eq (s : State) : s.bytesAtPC = (s.streamByte 0, s.streamByte 1, s.streamByte 2) := by
  have h1 : s.streamByte 1 = (s.issued (.read s.pc (s.answer s.pc))).answer (s.pc + 1#16) := by
    rw [State.streamByte, State.streamReads_one]
    rfl
  have h2 : s.streamByte 2 =
      ((s.issued (.read s.pc (s.answer s.pc))).issued (.read (s.pc + 1#16) (s.streamByte 1))).answer (s.pc + 2#16) := by
    rw [State.streamByte, State.streamReads_two]
    rfl
  rw [State.streamByte_zero, h2, h1]
  simp only [State.bytesAtPC, State.fetch8_eq, State.setPC_answer, State.setPC_pc, BitVec.add_assoc]
  rfl

/-- Handler entry of an opcode of the base table, as a record. -/
theorem State.handlerEntry_base_eq (s : State) (h : s.answer s.pc ≠ Config.prefixByte) :
    s.handlerEntry =
      { s with pc := s.pc + 1#16, bus := s.bus.afterAll (s.streamReads 1), accesses := s.streamReads 1
               unusedWarn := false } := by
  rw [State.handlerEntry_base s h, State.streamReads_one]
  rfl

/-- Handler entry of an extended opcode, as a record. -/
theorem State.handlerEntry_prefix_eq (s : State) (h : s.answer s.pc = Config.prefixByte) :
    s.handlerEntry =
      { s with pc := s.pc + 2#16, bus := s.bus.afterAll (s.streamReads 2), accesses := s.streamReads 2
               unusedWarn := false } := by
  rw [State.handlerEntry_prefix s h, State.streamReads_two, State.streamByte, State.streamReads_one, BitVec.add_assoc]
  rfl

end Sys2Proof.Machine
end

