-- ==== Sys2Proof/Laws/Frames.lean ====
section
/-! SUPPORT. Frames from the fields: the usual ways a next state meets `Frame`, `Ends` and `StoredWord`. -/
namespace Sys2Proof.Machine

/-- An extended form is its own handler. -/
@[simp] theorem Form.handler_extForm (op2 : Byte) : (extForm op2).handler = extForm op2 := by
  obtain ⟨_, _, h⟩ | ⟨_, _, h⟩ | ⟨_, _, h⟩ | ⟨_, _, h⟩ := extForm_cases op2 <;> rw [h] <;> rfl

theorem KeepsFlags.of_eq {s t : State} (flags : List Flag) (h : t.f = s.f) : KeepsFlags flags s t :=
  ⟨fun fl _ => by simp [State.flag, h], by rw [h]⟩

theorem KeepsMemory.of_eq {s t : State} (stores : List Word) (h : t.mem = s.mem) : KeepsMemory stores s t :=
  fun a _ => State.peek_congr s t h a

/-- A frame in which the flags are `F` itself and memory is the same list. -/
theorem Frame.of_eq {s t : State} (regs : List Reg8) (flags : List Flag) (stores : List Word)
    (hr : ∀ q, q ∉ regs → t.r8 q = s.r8 q) (hf : t.f = s.f) (hm : t.mem = s.mem)
    (hn : t.bus.map = s.bus.map) (hu : t.unusedWarn = s.unusedWarn) : Frame regs flags stores s t :=
  ⟨hr, KeepsFlags.of_eq flags hf, KeepsMemory.of_eq stores hm, hn, hu⟩

/-- A frame in which some flags change and memory is the same list. -/
theorem Frame.of_flags {s t : State} (regs : List Reg8) (flags : List Flag) (stores : List Word)
    (hr : ∀ q, q ∉ regs → t.r8 q = s.r8 q) (hf : ∀ fl, fl ∉ flags → t.flag fl = s.flag fl)
    (hl : t.f &&& 0x0F#8 = s.f &&& 0x0F#8) (hm : t.mem = s.mem)
    (hn : t.bus.map = s.bus.map) (hu : t.unusedWarn = s.unusedWarn) : Frame regs flags stores s t :=
  ⟨hr, ⟨hf, hl⟩, KeepsMemory.of_eq stores hm, hn, hu⟩

/-- The registers outside a pair survive a write of the pair. -/
theorem State.setR16_r8_other (s : State) (rr : Pair) (w : Word) (q : Reg8) (h : q ∉ rr.regs) :
    (s.setR16 rr w).r8 q = s.r8 q := by
  cases rr <;> cases q <;> first | rfl | simp [Pair.regs] at h

theorem State.setHL_r8_other (s : State) (w : Word) (q : Reg8) (h : q ∉ [Reg8.H, .L]) :
    (s.setHL w).r8 q = s.r8 q := by
  cases q <;> first | rfl | simp at h

/-- The registers outside a stack pair survive a write of the pair. -/
theorem State.setR16s_r8_other (s : State) (rr : StackPair) (w : Word) (q : Reg8) (h : q ∉ rr.regs) :
    (s.setR16s rr w).r8 q = s.r8 q := by
  cases rr <;> cases q <;> first | rfl | simp [StackPair.regs] at h

/-- A word written by a state that agrees with `s` on memory and bus is stored, seen from `s`. -/
theorem StoredWord.of_writeWord (s s' : State) (a w : Word) (hw : Memory.wf s.mem = true) (hm : s'.mem = s.mem)
    (hn : s'.bus.map = s.bus.map) : StoredWord s (s'.writeWord a w) a w := by
  have hp : ∀ b, s'.peek b = s.peek b := State.peek_congr s s' hm
  have ha : ∀ b, s'.accepts b = s.accepts b := fun b => Bus.accepts_congr hn b
  have hw' : Memory.wf s'.mem = true := by rw [hm]; exact hw
  constructor
  · unfold Stored
    rw [State.writeWord_peek _ _ _ _ hw']
    simp [(succ_ne a).symm, ha, hp]
  · unfold Stored
    rw [State.writeWord_peek _ _ _ _ hw']
    simp [succ_ne a, ha, hp]

/-- A byte written by a state that agrees with `s` on memory and bus is stored, seen from `s`. -/
theorem Stored.of_writeByte (s s' : State) (a : Word) (v : Byte) (hw : Memory.wf s.mem = true) (hm : s'.mem = s.mem)
    (hn : s'.bus.map = s.bus.map) : Stored s (s'.writeByte a v) a v := by
  have hp : ∀ b, s'.peek b = s.peek b := State.peek_congr s s' hm
  have ha : s'.accepts a = s.accepts a := Bus.accepts_congr hn a
  have hw' : Memory.wf s'.mem = true := by rw [hm]; exact hw
  unfold Stored
  rw [State.writeByte_peek _ _ _ _ hw']
  simp [ha, hp]

/-- Bytes outside the one written stay, seen from a state with the same memory. -/
theorem KeepsMemory.of_writeByte (s s' : State) (a : Word) (v : Byte) (hm : s'.mem = s.mem) :
    KeepsMemory [a] s (s'.writeByte a v) := by
  intro b hb
  rw [State.writeByte_peek_other _ _ _ _ (by simpa using hb)]
  exact State.peek_congr s s' hm b

/-- Bytes outside the word written stay, seen from a state with the same memory. -/
theorem KeepsMemory.of_writeWord (s s' : State) (a w : Word) (hm : s'.mem = s.mem) :
    KeepsMemory [a, a + 1#16] s (s'.writeWord a w) := by
  intro b hb
  simp only [List.mem_cons, List.not_mem_nil, or_false, not_or] at hb
  rw [State.writeWord_peek_other _ _ _ _ hb.1 hb.2]
  exact State.peek_congr s s' hm b

/-- Memory claims depend on memory alone. -/
theorem KeepsMemory.congr {s t u : State} (stores : List Word) (h : u.mem = t.mem) (k : KeepsMemory stores s t) :
    KeepsMemory stores s u := fun a ha => (State.peek_congr t u h a).trans (k a ha)

theorem Stored.congr {s t u : State} {a : Word} {v : Byte} (h : u.mem = t.mem) (k : Stored s t a v) : Stored s u a v :=
  (State.peek_congr t u h a).trans k

theorem StoredWord.congr {s t u : State} {a w : Word} (h : u.mem = t.mem) (k : StoredWord s t a w) :
    StoredWord s u a w := ⟨Stored.congr h k.1, Stored.congr h k.2⟩

end Sys2Proof.Machine
end

