-- ==== Sys2Proof/Laws/Shared.lean ====
section
/-! SUPPORT. What the operations shared inside a family do, said once: the accumulator operation, the operand fetch and the
base-register update of the accumulator loads and stores, the taken branch, call and return. -/
namespace Sys2Proof.Machine

/-! The accumulator operation. -/

/-- It is one write of the four flags and, but for `CP`, one write of `A`. -/
theorem State.aluAcc_eq (s : State) (op : AluOp) (v : Byte) :
    s.aluAcc op v =
      (s.setFlags (alu8 op s.a v (s.flag .C)).z (alu8 op s.a v (s.flag .C)).n (alu8 op s.a v (s.flag .C)).h
        (alu8 op s.a v (s.flag .C)).c).setA (if op = .cp then s.a else (alu8 op s.a v (s.flag .C)).res) := by
  cases op <;> first | (simp [State.aluAcc]; done) | rfl

/-- The accumulator afterwards. -/
theorem State.aluAcc_a (s : State) (op : AluOp) (v : Byte) :
    (s.aluAcc op v).a = if op = .cp then s.a else (alu8 op s.a v (s.flag .C)).res := by simp [State.aluAcc_eq]

/-- The flags afterwards. -/
theorem State.aluAcc_flag (s : State) (op : AluOp) (v : Byte) (fl : Flag) :
    (s.aluAcc op v).flag fl =
      match fl with
      | .Z => (alu8 op s.a v (s.flag .C)).z
      | .N => (alu8 op s.a v (s.flag .C)).n
      | .H => (alu8 op s.a v (s.flag .C)).h
      | .C => (alu8 op s.a v (s.flag .C)).c := by
  cases fl <;> simp only [State.aluAcc_eq, State.setA_flag, State.setFlags_flag]

theorem State.aluAcc_low (s : State) (op : AluOp) (v : Byte) : (s.aluAcc op v).f &&& 0x0F#8 = s.f &&& 0x0F#8 := by
  rw [State.aluAcc_eq, State.setA_f, State.setFlags_low]

theorem State.aluAcc_r8_other (s : State) (op : AluOp) (v : Byte) (q : Reg8) (h : q ≠ .A) :
    (s.aluAcc op v).r8 q = s.r8 q := by
  rw [State.aluAcc_eq]
  cases q <;> first | exact absurd rfl h | simp [State.r8]

@[simp] theorem State.aluAcc_pc (s : State) (op : AluOp) (v : Byte) : (s.aluAcc op v).pc = s.pc := by simp [State.aluAcc_eq]
@[simp] theorem State.aluAcc_sp (s : State) (op : AluOp) (v : Byte) : (s.aluAcc op v).sp = s.sp := by simp [State.aluAcc_eq]
@[simp] theorem State.aluAcc_ime (s : State) (op : AluOp) (v : Byte) : (s.aluAcc op v).ime = s.ime := by
  simp [State.aluAcc_eq]
@[simp] theorem State.aluAcc_mem (s : State) (op : AluOp) (v : Byte) : (s.aluAcc op v).mem = s.mem := by
  simp [State.aluAcc_eq]
@[simp] theorem State.aluAcc_bus (s : State) (op : AluOp) (v : Byte) : (s.aluAcc op v).bus = s.bus := by simp [State.aluAcc_eq]
@[simp] theorem State.aluAcc_accesses (s : State) (op : AluOp) (v : Byte) : (s.aluAcc op v).accesses = s.accesses := by
  simp [State.aluAcc_eq]
@[simp] theorem State.aluAcc_unusedWarn (s : State) (op : AluOp) (v : Byte) :
    (s.aluAcc op v).unusedWarn = s.unusedWarn := by simp [State.aluAcc_eq]

/-! The accumulator loads and stores. -/

/-- The operand fetch moves `PC` and records the operand reads. -/
theorem State.accFetch_eq (s : State) (m : AccMode) :
    s.accFetch m =
      { s with pc := s.accNext m, accesses := s.accesses ++ s.accReads m, bus := s.bus.afterAll (s.accReads m) } := by
  cases m <;> simp [State.accFetch, State.accNext, State.accReads, State.operand8, State.operand16, State.issued, State.setPC]

/-- The base register afterwards. -/
theorem State.accPost_eq (s : State) (m : AccMode) : s.accPost m = s.setHL (s.accHL m) := by
  have h : s.setHL s.hl = s := by
    simp only [State.setHL, State.hl, hi8_mkWord, lo8_mkWord]
    rfl
  cases m <;> simp [State.accPost, State.accHL, h]

/-! Taken branches, calls and returns. -/

theorem State.branchRel_eq (s : State) (r8 : Byte) :
    s.branchRel r8 =
      { s with pc := s.pc + 1#16 + sext16 r8, accesses := s.accesses ++ [.read s.pc r8]
               bus := s.bus.after (.read s.pc r8) } := rfl

theorem State.callFrom_eq (s : State) (a16 : Word) :
    s.callFrom a16 =
      { s with pc := a16, sp := s.sp - 2#16, mem := (s.push16 (s.pc + 2#16)).mem
               accesses := s.accesses ++ (wordReads s.pc a16 ++ wordWrites (s.sp - 2#16) (s.pc + 2#16))
               bus := s.bus.afterAll (wordReads s.pc a16 ++ wordWrites (s.sp - 2#16) (s.pc + 2#16)) } := by
  simp [State.callFrom, State.push16, State.writeWord, State.writeByte, State.operand16, State.issued, State.setPC,
    State.setSP, State.accepts, wordReads, wordWrites]

theorem State.popPC_eq (s : State) :
    s.popPC =
      { s with pc := s.pop16.1, sp := s.sp + 2#16, accesses := s.accesses ++ s.wordReadsAt s.sp
               bus := s.bus.afterAll (s.wordReadsAt s.sp) } := by
  simp only [State.popPC, State.pop16_eq, State.readWord_state, State.setPC, State.setSP]

end Sys2Proof.Machine
end

