-- ==== Sys2Proof/Tests/Slice0.lean ====
section
/-! SUPPORT. The model's own tests: the well-formedness smoke, one word per opcode written out from 30_encoding.md, the
vectors of spec/95_test_vectors.md one step each, and for every statement with hypotheses a witness that meets them. -/
namespace Sys2Proof.Tests
open Sys2Proof.Machine

/-! Well-formedness: its one check, refused and passed. -/

theorem test_wellFormed_refuses_prefix_entry : (Instr.prefixCB 0x00#8).wellFormed = false := by decide

theorem test_wellFormed_accepts_extended : (Instr.rlc_B).wellFormed = true := by decide

/-! Decoding. -/

/-- A list of bytes decodes to an instruction, with nothing left over. -/
def decodesTo (x : List Byte × Instr) : Bool :=
  match decode x.1 with
  | .ok (i, rest) => decide (i = x.2) && rest.isEmpty
  | .error _ => false

/-- A list of bytes is rejected by this name. -/
def rejectedBy (bs : List Byte) (e : DecodeError) : Bool :=
  match decode bs with
  | .ok _ => false
  | .error e' => decide (e' = e)

theorem test_decode_rejects_no_bytes : rejectedBy [] .noBytes = true := by decide

theorem test_decode_rejects_truncated :
    rejectedBy [0xCB#8] (.truncated 2) = true ∧ rejectedBy [0xC3#8, 0x50#8] (.truncated 3) = true := by decide

/-- 30_encoding.md R98: in the table's numbering an operand byte lies above the opcode, but 0xCB lies above an extended
opcode. -/
theorem test_decodeTableWord :
    decodeTableWord 8 0x41 = some .ld_B_C ∧ decodeTableWord 24 0x1234C3 = some (.jp_a16 0x1234#16) ∧
      decodeTableWord 16 0x5A06 = some (.ld_B_d8 0x5A#8) ∧ decodeTableWord 16 0xCB11 = some .rl_C ∧
      decodeTableWord 16 0xCBCB = some .set_1_E := by decide

/-- Row 0x of the base table (30_encoding.md R91), operand bytes 5A or 34 12. -/
def decodeRow0 : List (List Byte × Instr) :=
  [
    ([0x00#8], .nop),
    ([0x01#8, 0x34#8, 0x12#8], .ld_BC_d16 0x1234#16),
    ([0x02#8], .ld_atBC_A),
    ([0x03#8], .inc_BC),
    ([0x04#8], .inc_B),
    ([0x05#8], .dec_B),
    ([0x06#8, 0x5A#8], .ld_B_d8 0x5A#8),
    ([0x07#8], .rlca),
    ([0x08#8, 0x34#8, 0x12#8], .ld_atA16_SP 0x1234#16),
    ([0x09#8], .add_HL_BC),
    ([0x0A#8], .ld_A_atBC),
    ([0x0B#8], .dec_BC),
    ([0x0C#8], .inc_C),
    ([0x0D#8], .dec_C),
    ([0x0E#8, 0x5A#8], .ld_C_d8 0x5A#8),
    ([0x0F#8], .rrca) ]

theorem test_decodeRow0 : decodeRow0.all decodesTo = true := by decide

/-- Row 1x of the base table (30_encoding.md R91), operand bytes 5A or 34 12. -/
def decodeRow1 : List (List Byte × Instr) :=
  [
    ([0x10#8], .stop),
    ([0x11#8, 0x34#8, 0x12#8], .ld_DE_d16 0x1234#16),
    ([0x12#8], .ld_atDE_A),
    ([0x13#8], .inc_DE),
    ([0x14#8], .inc_D),
    ([0x15#8], .dec_D),
    ([0x16#8, 0x5A#8], .ld_D_d8 0x5A#8),
    ([0x17#8], .rla),
    ([0x18#8, 0x5A#8], .jr_r8 0x5A#8),
    ([0x19#8], .add_HL_DE),
    ([0x1A#8], .ld_A_atDE),
    ([0x1B#8], .dec_DE),
    ([0x1C#8], .inc_E),
    ([0x1D#8], .dec_E),
    ([0x1E#8, 0x5A#8], .ld_E_d8 0x5A#8),
    ([0x1F#8], .rra) ]

theorem test_decodeRow1 : decodeRow1.all decodesTo = true := by decide

/-- Row 2x of the base table (30_encoding.md R91), operand bytes 5A or 34 12. -/
def decodeRow2 : List (List Byte × Instr) :=
  [
    ([0x20#8, 0x5A#8], .jr_NZ_r8 0x5A#8),
    ([0x21#8, 0x34#8, 0x12#8], .ld_HL_d16 0x1234#16),
    ([0x22#8], .ld_atHLinc_A),
    ([0x23#8], .inc_HL),
    ([0x24#8], .inc_H),
    ([0x25#8], .dec_H),
    ([0x26#8, 0x5A#8], .ld_H_d8 0x5A#8),
    ([0x27#8], .daa),
    ([0x28#8, 0x5A#8], .jr_Z_r8 0x5A#8),
    ([0x29#8], .add_HL_HL),
    ([0x2A#8], .ld_A_atHLinc),
    ([0x2B#8], .dec_HL),
    ([0x2C#8], .inc_L),
    ([0x2D#8], .dec_L),
    ([0x2E#8, 0x5A#8], .ld_L_d8 0x5A#8),
    ([0x2F#8], .cpl) ]

theorem test_decodeRow2 : decodeRow2.all decodesTo = true := by decide

/-- Row 3x of the base table (30_encoding.md R91), operand bytes 5A or 34 12. -/
def decodeRow3 : List (List Byte × Instr) :=
  [
    ([0x30#8, 0x5A#8], .jr_NC_r8 0x5A#8),
    ([0x31#8, 0x34#8, 0x12#8], .ld_SP_d16 0x1234#16),
    ([0x32#8], .ld_atHLdec_A),
    ([0x33#8], .inc_SP),
    ([0x34#8], .inc_atHL),
    ([0x35#8], .dec_atHL),
    ([0x36#8, 0x5A#8], .ld_atHL_d8 0x5A#8),
    ([0x37#8], .scf),
    ([0x38#8, 0x5A#8], .jr_C_r8 0x5A#8),
    ([0x39#8], .add_HL_SP),
    ([0x3A#8], .ld_A_atHLdec),
    ([0x3B#8], .dec_SP),
    ([0x3C#8], .inc_A),
    ([0x3D#8], .dec_A),
    ([0x3E#8, 0x5A#8], .ld_A_d8 0x5A#8),
    ([0x3F#8], .ccf) ]

theorem test_decodeRow3 : decodeRow3.all decodesTo = true := by decide

/-- Row 4x of the base table (30_encoding.md R91), operand bytes 5A or 34 12. -/
def decodeRow4 : List (List Byte × Instr) :=
  [
    ([0x40#8], .ld_B_B),
    ([0x41#8], .ld_B_C),
    ([0x42#8], .ld_B_D),
    ([0x43#8], .ld_B_E),
    ([0x44#8], .ld_B_H),
    ([0x45#8], .ld_B_L),
    ([0x46#8], .ld_B_atHL),
    ([0x47#8], .ld_B_A),
    ([0x48#8], .ld_C_B),
    ([0x49#8], .ld_C_C),
    ([0x4A#8], .ld_C_D),
    ([0x4B#8], .ld_C_E),
    ([0x4C#8], .ld_C_H),
    ([0x4D#8], .ld_C_L),
    ([0x4E#8], .ld_C_atHL),
    ([0x4F#8], .ld_C_A) ]

theorem test_decodeRow4 : decodeRow4.all decodesTo = true := by decide

/-- Row 5x of the base table (30_encoding.md R91), operand bytes 5A or 34 12. -/
def decodeRow5 : List (List Byte × Instr) :=
  [
    ([0x50#8], .ld_D_B),
    ([0x51#8], .ld_D_C),
    ([0x52#8], .ld_D_D),
    ([0x53#8], .ld_D_E),
    ([0x54#8], .ld_D_H),
    ([0x55#8], .ld_D_L),
    ([0x56#8], .ld_D_atHL),
    ([0x57#8], .ld_D_A),
    ([0x58#8], .ld_E_B),
    ([0x59#8], .ld_E_C),
    ([0x5A#8], .ld_E_D),
    ([0x5B#8], .ld_E_E),
    ([0x5C#8], .ld_E_H),
    ([0x5D#8], .ld_E_L),
    ([0x5E#8], .ld_E_atHL),
    ([0x5F#8], .ld_E_A) ]

theorem test_decodeRow5 : decodeRow5.all decodesTo = true := by decide

/-- Row 6x of the base table (30_encoding.md R91), operand bytes 5A or 34 12. -/
def decodeRow6 : List (List Byte × Instr) :=
  [
    ([0x60#8], .ld_H_B),
    ([0x61#8], .ld_H_C),
    ([0x62#8], .ld_H_D),
    ([0x63#8], .ld_H_E),
    ([0x64#8], .ld_H_H),
    ([0x65#8], .ld_H_L),
    ([0x66#8], .ld_H_atHL),
    ([0x67#8], .ld_H_A),
    ([0x68#8], .ld_L_B),
    ([0x69#8], .ld_L_C),
    ([0x6A#8], .ld_L_D),
    ([0x6B#8], .ld_L_E),
    ([0x6C#8], .ld_L_H),
    ([0x6D#8], .ld_L_L),
    ([0x6E#8], .ld_L_atHL),
    ([0x6F#8], .ld_L_A) ]

theorem test_decodeRow6 : decodeRow6.all decodesTo = true := by decide

/-- Row 7x of the base table (30_encoding.md R91), operand bytes 5A or 34 12. -/
def decodeRow7 : List (List Byte × Instr) :=
  [
    ([0x70#8], .ld_atHL_B),
    ([0x71#8], .ld_atHL_C),
    ([0x72#8], .ld_atHL_D),
    ([0x73#8], .ld_atHL_E),
    ([0x74#8], .ld_atHL_H),
    ([0x75#8], .ld_atHL_L),
    ([0x76#8], .halt),
    ([0x77#8], .ld_atHL_A),
    ([0x78#8], .ld_A_B),
    ([0x79#8], .ld_A_C),
    ([0x7A#8], .ld_A_D),
    ([0x7B#8], .ld_A_E),
    ([0x7C#8], .ld_A_H),
    ([0x7D#8], .ld_A_L),
    ([0x7E#8], .ld_A_atHL),
    ([0x7F#8], .ld_A_A) ]

theorem test_decodeRow7 : decodeRow7.all decodesTo = true := by decide

/-- Row 8x of the base table (30_encoding.md R91), operand bytes 5A or 34 12. -/
def decodeRow8 : List (List Byte × Instr) :=
  [
    ([0x80#8], .add_A_B),
    ([0x81#8], .add_A_C),
    ([0x82#8], .add_A_D),
    ([0x83#8], .add_A_E),
    ([0x84#8], .add_A_H),
    ([0x85#8], .add_A_L),
    ([0x86#8], .add_A_atHL),
    ([0x87#8], .add_A_A),
    ([0x88#8], .adc_A_B),
    ([0x89#8], .adc_A_C),
    ([0x8A#8], .adc_A_D),
    ([0x8B#8], .adc_A_E),
    ([0x8C#8], .adc_A_H),
    ([0x8D#8], .adc_A_L),
    ([0x8E#8], .adc_A_atHL),
    ([0x8F#8], .adc_A_A) ]

theorem test_decodeRow8 : decodeRow8.all decodesTo = true := by decide

/-- Row 9x of the base table (30_encoding.md R91), operand bytes 5A or 34 12. -/
def decodeRow9 : List (List Byte × Instr) :=
  [
    ([0x90#8], .sub_A_B),
    ([0x91#8], .sub_A_C),
    ([0x92#8], .sub_A_D),
    ([0x93#8], .sub_A_E),
    ([0x94#8], .sub_A_H),
    ([0x95#8], .sub_A_L),
    ([0x96#8], .sub_A_atHL),
    ([0x97#8], .sub_A_A),
    ([0x98#8], .sbc_A_B),
    ([0x99#8], .sbc_A_C),
    ([0x9A#8], .sbc_A_D),
    ([0x9B#8], .sbc_A_E),
    ([0x9C#8], .sbc_A_H),
    ([0x9D#8], .sbc_A_L),
    ([0x9E#8], .sbc_A_atHL),
    ([0x9F#8], .sbc_A_A) ]

theorem test_decodeRow9 : decodeRow9.all decodesTo = true := by decide

/-- Row Ax of the base table (30_encoding.md R91), operand bytes 5A or 34 12. -/
def decodeRowA : List (List Byte × Instr) :=
  [
    ([0xA0#8], .and_A_B),
    ([0xA1#8], .and_A_C),
    ([0xA2#8], .and_A_D),
    ([0xA3#8], .and_A_E),
    ([0xA4#8], .and_A_H),
    ([0xA5#8], .and_A_L),
    ([0xA6#8], .and_A_atHL),
    ([0xA7#8], .and_A_A),
    ([0xA8#8], .xor_A_B),
    ([0xA9#8], .xor_A_C),
    ([0xAA#8], .xor_A_D),
    ([0xAB#8], .xor_A_E),
    ([0xAC#8], .xor_A_H),
    ([0xAD#8], .xor_A_L),
    ([0xAE#8], .xor_A_atHL),
    ([0xAF#8], .xor_A_A) ]

theorem test_decodeRowA : decodeRowA.all decodesTo = true := by decide

/-- Row Bx of the base table (30_encoding.md R91), operand bytes 5A or 34 12. -/
def decodeRowB : List (List Byte × Instr) :=
  [
    ([0xB0#8], .or_A_B),
    ([0xB1#8], .or_A_C),
    ([0xB2#8], .or_A_D),
    ([0xB3#8], .or_A_E),
    ([0xB4#8], .or_A_H),
    ([0xB5#8], .or_A_L),
    ([0xB6#8], .or_A_atHL),
    ([0xB7#8], .or_A_A),
    ([0xB8#8], .cp_A_B),
    ([0xB9#8], .cp_A_C),
    ([0xBA#8], .cp_A_D),
    ([0xBB#8], .cp_A_E),
    ([0xBC#8], .cp_A_H),
    ([0xBD#8], .cp_A_L),
    ([0xBE#8], .cp_A_atHL),
    ([0xBF#8], .cp_A_A) ]

theorem test_decodeRowB : decodeRowB.all decodesTo = true := by decide

/-- Row Cx of the base table (30_encoding.md R91), operand bytes 5A or 34 12. -/
def decodeRowC : List (List Byte × Instr) :=
  [
    ([0xC0#8], .ret_NZ),
    ([0xC1#8], .pop_BC),
    ([0xC2#8, 0x34#8, 0x12#8], .jp_NZ_a16 0x1234#16),
    ([0xC3#8, 0x34#8, 0x12#8], .jp_a16 0x1234#16),
    ([0xC4#8, 0x34#8, 0x12#8], .call_NZ_a16 0x1234#16),
    ([0xC5#8], .push_BC),
    ([0xC6#8, 0x5A#8], .add_A_d8 0x5A#8),
    ([0xC7#8], .rst_00),
    ([0xC8#8], .ret_Z),
    ([0xC9#8], .ret),
    ([0xCA#8, 0x34#8, 0x12#8], .jp_Z_a16 0x1234#16),
    ([0xCC#8, 0x34#8, 0x12#8], .call_Z_a16 0x1234#16),
    ([0xCD#8, 0x34#8, 0x12#8], .call_a16 0x1234#16),
    ([0xCE#8, 0x5A#8], .adc_A_d8 0x5A#8),
    ([0xCF#8], .rst_08) ]

theorem test_decodeRowC : decodeRowC.all decodesTo = true := by decide

/-- Row Dx of the base table (30_encoding.md R91), operand bytes 5A or 34 12. -/
def decodeRowD : List (List Byte × Instr) :=
  [
    ([0xD0#8], .ret_NC),
    ([0xD1#8], .pop_DE),
    ([0xD2#8, 0x34#8, 0x12#8], .jp_NC_a16 0x1234#16),
    ([0xD3#8], .unused_D3),
    ([0xD4#8, 0x34#8, 0x12#8], .call_NC_a16 0x1234#16),
    ([0xD5#8], .push_DE),
    ([0xD6#8, 0x5A#8], .sub_A_d8 0x5A#8),
    ([0xD7#8], .rst_10),
    ([0xD8#8], .ret_C),
    ([0xD9#8], .reti),
    ([0xDA#8, 0x34#8, 0x12#8], .jp_C_a16 0x1234#16),
    ([0xDB#8], .unused_DB),
    ([0xDC#8, 0x34#8, 0x12#8], .call_C_a16 0x1234#16),
    ([0xDD#8], .unused_DD),
    ([0xDE#8, 0x5A#8], .sbc_A_d8 0x5A#8),
    ([0xDF#8], .rst_18) ]

theorem test_decodeRowD : decodeRowD.all decodesTo = true := by decide

/-- Row Ex of the base table (30_encoding.md R91), operand bytes 5A or 34 12. -/
def decodeRowE : List (List Byte × Instr) :=
  [
    ([0xE0#8, 0x5A#8], .ld_highA8_A 0x5A#8),
    ([0xE1#8], .pop_HL),
    ([0xE2#8], .ld_highC_A),
    ([0xE3#8], .unused_E3),
    ([0xE4#8], .unused_E4),
    ([0xE5#8], .push_HL),
    ([0xE6#8, 0x5A#8], .and_A_d8 0x5A#8),
    ([0xE7#8], .rst_20),
    ([0xE8#8, 0x5A#8], .add_SP_r8 0x5A#8),
    ([0xE9#8], .jp_HL),
    ([0xEA#8, 0x34#8, 0x12#8], .ld_atA16_A 0x1234#16),
    ([0xEB#8], .unused_EB),
    ([0xEC#8], .unused_EC),
    ([0xED#8], .unused_ED),
    ([0xEE#8, 0x5A#8], .xor_A_d8 0x5A#8),
    ([0xEF#8], .rst_28) ]

theorem test_decodeRowE : decodeRowE.all decodesTo = true := by decide

/-- Row Fx of the base table (30_encoding.md R91), operand bytes 5A or 34 12. -/
def decodeRowF : List (List Byte × Instr) :=
  [
    ([0xF0#8, 0x5A#8], .ld_A_highA8 0x5A#8),
    ([0xF1#8], .pop_AF),
    ([0xF2#8], .ld_A_highC),
    ([0xF3#8], .di),
    ([0xF4#8], .unused_F4),
    ([0xF5#8], .push_AF),
    ([0xF6#8, 0x5A#8], .or_A_d8 0x5A#8),
    ([0xF7#8], .rst_30),
    ([0xF8#8, 0x5A#8], .ld_HL_SPr8 0x5A#8),
    ([0xF9#8], .ld_HL_SP),
    ([0xFA#8, 0x34#8, 0x12#8], .ld_A_atA16 0x1234#16),
    ([0xFB#8], .ei),
    ([0xFC#8], .unused_FC),
    ([0xFD#8], .unused_FD),
    ([0xFE#8, 0x5A#8], .cp_A_d8 0x5A#8),
    ([0xFF#8], .rst_38) ]

theorem test_decodeRowF : decodeRowF.all decodesTo = true := by decide

/-- Row 0x of the extended table (30_encoding.md R92). -/
def decodeExt0 : List (List Byte × Instr) :=
  [
    ([0xCB#8, 0x00#8], .rlc_B),
    ([0xCB#8, 0x01#8], .rlc_C),
    ([0xCB#8, 0x02#8], .rlc_D),
    ([0xCB#8, 0x03#8], .rlc_E),
    ([0xCB#8, 0x04#8], .rlc_H),
    ([0xCB#8, 0x05#8], .rlc_L),
    ([0xCB#8, 0x06#8], .rlc_atHL),
    ([0xCB#8, 0x07#8], .rlc_A),
    ([0xCB#8, 0x08#8], .rrc_B),
    ([0xCB#8, 0x09#8], .rrc_C),
    ([0xCB#8, 0x0A#8], .rrc_D),
    ([0xCB#8, 0x0B#8], .rrc_E),
    ([0xCB#8, 0x0C#8], .rrc_H),
    ([0xCB#8, 0x0D#8], .rrc_L),
    ([0xCB#8, 0x0E#8], .rrc_atHL),
    ([0xCB#8, 0x0F#8], .rrc_A) ]

theorem test_decodeExt0 : decodeExt0.all decodesTo = true := by decide

/-- Row 1x of the extended table (30_encoding.md R92). -/
def decodeExt1 : List (List Byte × Instr) :=
  [
    ([0xCB#8, 0x10#8], .rl_B),
    ([0xCB#8, 0x11#8], .rl_C),
    ([0xCB#8, 0x12#8], .rl_D),
    ([0xCB#8, 0x13#8], .rl_E),
    ([0xCB#8, 0x14#8], .rl_H),
    ([0xCB#8, 0x15#8], .rl_L),
    ([0xCB#8, 0x16#8], .rl_atHL),
    ([0xCB#8, 0x17#8], .rl_A),
    ([0xCB#8, 0x18#8], .rr_B),
    ([0xCB#8, 0x19#8], .rr_C),
    ([0xCB#8, 0x1A#8], .rr_D),
    ([0xCB#8, 0x1B#8], .rr_E),
    ([0xCB#8, 0x1C#8], .rr_H),
    ([0xCB#8, 0x1D#8], .rr_L),
    ([0xCB#8, 0x1E#8], .rr_atHL),
    ([0xCB#8, 0x1F#8], .rr_A) ]

theorem test_decodeExt1 : decodeExt1.all decodesTo = true := by decide

/-- Row 2x of the extended table (30_encoding.md R92). -/
def decodeExt2 : List (List Byte × Instr) :=
  [
    ([0xCB#8, 0x20#8], .sla_B),
    ([0xCB#8, 0x21#8], .sla_C),
    ([0xCB#8, 0x22#8], .sla_D),
    ([0xCB#8, 0x23#8], .sla_E),
    ([0xCB#8, 0x24#8], .sla_H),
    ([0xCB#8, 0x25#8], .sla_L),
    ([0xCB#8, 0x26#8], .sla_atHL),
    ([0xCB#8, 0x27#8], .sla_A),
    ([0xCB#8, 0x28#8], .sra_B),
    ([0xCB#8, 0x29#8], .sra_C),
    ([0xCB#8, 0x2A#8], .sra_D),
    ([0xCB#8, 0x2B#8], .sra_E),
    ([0xCB#8, 0x2C#8], .sra_H),
    ([0xCB#8, 0x2D#8], .sra_L),
    ([0xCB#8, 0x2E#8], .sra_atHL),
    ([0xCB#8, 0x2F#8], .sra_A) ]

theorem test_decodeExt2 : decodeExt2.all decodesTo = true := by decide

/-- Row 3x of the extended table (30_encoding.md R92). -/
def decodeExt3 : List (List Byte × Instr) :=
  [
    ([0xCB#8, 0x30#8], .swap_B),
    ([0xCB#8, 0x31#8], .swap_C),
    ([0xCB#8, 0x32#8], .swap_D),
    ([0xCB#8, 0x33#8], .swap_E),
    ([0xCB#8, 0x34#8], .swap_H),
    ([0xCB#8, 0x35#8], .swap_L),
    ([0xCB#8, 0x36#8], .swap_atHL),
    ([0xCB#8, 0x37#8], .swap_A),
    ([0xCB#8, 0x38#8], .srl_B),
    ([0xCB#8, 0x39#8], .srl_C),
    ([0xCB#8, 0x3A#8], .srl_D),
    ([0xCB#8, 0x3B#8], .srl_E),
    ([0xCB#8, 0x3C#8], .srl_H),
    ([0xCB#8, 0x3D#8], .srl_L),
    ([0xCB#8, 0x3E#8], .srl_atHL),
    ([0xCB#8, 0x3F#8], .srl_A) ]

theorem test_decodeExt3 : decodeExt3.all decodesTo = true := by decide

/-- Row 4x of the extended table (30_encoding.md R92). -/
def decodeExt4 : List (List Byte × Instr) :=
  [
    ([0xCB#8, 0x40#8], .bit_0_B),
    ([0xCB#8, 0x41#8], .bit_0_C),
    ([0xCB#8, 0x42#8], .bit_0_D),
    ([0xCB#8, 0x43#8], .bit_0_E),
    ([0xCB#8, 0x44#8], .bit_0_H),
    ([0xCB#8, 0x45#8], .bit_0_L),
    ([0xCB#8, 0x46#8], .bit_0_atHL),
    ([0xCB#8, 0x47#8], .bit_0_A),
    ([0xCB#8, 0x48#8], .bit_1_B),
    ([0xCB#8, 0x49#8], .bit_1_C),
    ([0xCB#8, 0x4A#8], .bit_1_D),
    ([0xCB#8, 0x4B#8], .bit_1_E),
    ([0xCB#8, 0x4C#8], .bit_1_H),
    ([0xCB#8, 0x4D#8], .bit_1_L),
    ([0xCB#8, 0x4E#8], .bit_1_atHL),
    ([0xCB#8, 0x4F#8], .bit_1_A) ]

theorem test_decodeExt4 : decodeExt4.all decodesTo = true := by decide

/-- Row 5x of the extended table (30_encoding.md R92). -/
def decodeExt5 : List (List Byte × Instr) :=
  [
    ([0xCB#8, 0x50#8], .bit_2_B),
    ([0xCB#8, 0x51#8], .bit_2_C),
    ([0xCB#8, 0x52#8], .bit_2_D),
    ([0xCB#8, 0x53#8], .bit_2_E),
    ([0xCB#8, 0x54#8], .bit_2_H),
    ([0xCB#8, 0x55#8], .bit_2_L),
    ([0xCB#8, 0x56#8], .bit_2_atHL),
    ([0xCB#8, 0x57#8], .bit_2_A),
    ([0xCB#8, 0x58#8], .bit_3_B),
    ([0xCB#8, 0x59#8], .bit_3_C),
    ([0xCB#8, 0x5A#8], .bit_3_D),
    ([0xCB#8, 0x5B#8], .bit_3_E),
    ([0xCB#8, 0x5C#8], .bit_3_H),
    ([0xCB#8, 0x5D#8], .bit_3_L),
    ([0xCB#8, 0x5E#8], .bit_3_atHL),
    ([0xCB#8, 0x5F#8], .bit_3_A) ]

theorem test_decodeExt5 : decodeExt5.all decodesTo = true := by decide

/-- Row 6x of the extended table (30_encoding.md R92). -/
def decodeExt6 : List (List Byte × Instr) :=
  [
    ([0xCB#8, 0x60#8], .bit_4_B),
    ([0xCB#8, 0x61#8], .bit_4_C),
    ([0xCB#8, 0x62#8], .bit_4_D),
    ([0xCB#8, 0x63#8], .bit_4_E),
    ([0xCB#8, 0x64#8], .bit_4_H),
    ([0xCB#8, 0x65#8], .bit_4_L),
    ([0xCB#8, 0x66#8], .bit_4_atHL),
    ([0xCB#8, 0x67#8], .bit_4_A),
    ([0xCB#8, 0x68#8], .bit_5_B),
    ([0xCB#8, 0x69#8], .bit_5_C),
    ([0xCB#8, 0x6A#8], .bit_5_D),
    ([0xCB#8, 0x6B#8], .bit_5_E),
    ([0xCB#8, 0x6C#8], .bit_5_H),
    ([0xCB#8, 0x6D#8], .bit_5_L),
    ([0xCB#8, 0x6E#8], .bit_5_atHL),
    ([0xCB#8, 0x6F#8], .bit_5_A) ]

theorem test_decodeExt6 : decodeExt6.all decodesTo = true := by decide

/-- Row 7x of the extended table (30_encoding.md R92). -/
def decodeExt7 : List (List Byte × Instr) :=
  [
    ([0xCB#8, 0x70#8], .bit_6_B),
    ([0xCB#8, 0x71#8], .bit_6_C),
    ([0xCB#8, 0x72#8], .bit_6_D),
    ([0xCB#8, 0x73#8], .bit_6_E),
    ([0xCB#8, 0x74#8], .bit_6_H),
    ([0xCB#8, 0x75#8], .bit_6_L),
    ([0xCB#8, 0x76#8], .bit_6_atHL),
    ([0xCB#8, 0x77#8], .bit_6_A),
    ([0xCB#8, 0x78#8], .bit_7_B),
    ([0xCB#8, 0x79#8], .bit_7_C),
    ([0xCB#8, 0x7A#8], .bit_7_D),
    ([0xCB#8, 0x7B#8], .bit_7_E),
    ([0xCB#8, 0x7C#8], .bit_7_H),
    ([0xCB#8, 0x7D#8], .bit_7_L),
    ([0xCB#8, 0x7E#8], .bit_7_atHL),
    ([0xCB#8, 0x7F#8], .bit_7_A) ]

theorem test_decodeExt7 : decodeExt7.all decodesTo = true := by decide

/-- Row 8x of the extended table (30_encoding.md R92). -/
def decodeExt8 : List (List Byte × Instr) :=
  [
    ([0xCB#8, 0x80#8], .res_0_B),
    ([0xCB#8, 0x81#8], .res_0_C),
    ([0xCB#8, 0x82#8], .res_0_D),
    ([0xCB#8, 0x83#8], .res_0_E),
    ([0xCB#8, 0x84#8], .res_0_H),
    ([0xCB#8, 0x85#8], .res_0_L),
    ([0xCB#8, 0x86#8], .res_0_atHL),
    ([0xCB#8, 0x87#8], .res_0_A),
    ([0xCB#8, 0x88#8], .res_1_B),
    ([0xCB#8, 0x89#8], .res_1_C),
    ([0xCB#8, 0x8A#8], .res_1_D),
    ([0xCB#8, 0x8B#8], .res_1_E),
    ([0xCB#8, 0x8C#8], .res_1_H),
    ([0xCB#8, 0x8D#8], .res_1_L),
    ([0xCB#8, 0x8E#8], .res_1_atHL),
    ([0xCB#8, 0x8F#8], .res_1_A) ]

theorem test_decodeExt8 : decodeExt8.all decodesTo = true := by decide

/-- Row 9x of the extended table (30_encoding.md R92). -/
def decodeExt9 : List (List Byte × Instr) :=
  [
    ([0xCB#8, 0x90#8], .res_2_B),
    ([0xCB#8, 0x91#8], .res_2_C),
    ([0xCB#8, 0x92#8], .res_2_D),
    ([0xCB#8, 0x93#8], .res_2_E),
    ([0xCB#8, 0x94#8], .res_2_H),
    ([0xCB#8, 0x95#8], .res_2_L),
    ([0xCB#8, 0x96#8], .res_2_atHL),
    ([0xCB#8, 0x97#8], .res_2_A),
    ([0xCB#8, 0x98#8], .res_3_B),
    ([0xCB#8, 0x99#8], .res_3_C),
    ([0xCB#8, 0x9A#8], .res_3_D),
    ([0xCB#8, 0x9B#8], .res_3_E),
    ([0xCB#8, 0x9C#8], .res_3_H),
    ([0xCB#8, 0x9D#8], .res_3_L),
    ([0xCB#8, 0x9E#8], .res_3_atHL),
    ([0xCB#8, 0x9F#8], .res_3_A) ]

theorem test_decodeExt9 : decodeExt9.all decodesTo = true := by decide

/-- Row Ax of the extended table (30_encoding.md R92). -/
def decodeExtA : List (List Byte × Instr) :=
  [
    ([0xCB#8, 0xA0#8], .res_4_B),
    ([0xCB#8, 0xA1#8], .res_4_C),
    ([0xCB#8, 0xA2#8], .res_4_D),
    ([0xCB#8, 0xA3#8], .res_4_E),
    ([0xCB#8, 0xA4#8], .res_4_H),
    ([0xCB#8, 0xA5#8], .res_4_L),
    ([0xCB#8, 0xA6#8], .res_4_atHL),
    ([0xCB#8, 0xA7#8], .res_4_A),
    ([0xCB#8, 0xA8#8], .res_5_B),
    ([0xCB#8, 0xA9#8], .res_5_C),
    ([0xCB#8, 0xAA#8], .res_5_D),
    ([0xCB#8, 0xAB#8], .res_5_E),
    ([0xCB#8, 0xAC#8], .res_5_H),
    ([0xCB#8, 0xAD#8], .res_5_L),
    ([0xCB#8, 0xAE#8], .res_5_atHL),
    ([0xCB#8, 0xAF#8], .res_5_A) ]

theorem test_decodeExtA : decodeExtA.all decodesTo = true := by decide

/-- Row Bx of the extended table (30_encoding.md R92). -/
def decodeExtB : List (List Byte × Instr) :=
  [
    ([0xCB#8, 0xB0#8], .res_6_B),
    ([0xCB#8, 0xB1#8], .res_6_C),
    ([0xCB#8, 0xB2#8], .res_6_D),
    ([0xCB#8, 0xB3#8], .res_6_E),
    ([0xCB#8, 0xB4#8], .res_6_H),
    ([0xCB#8, 0xB5#8], .res_6_L),
    ([0xCB#8, 0xB6#8], .res_6_atHL),
    ([0xCB#8, 0xB7#8], .res_6_A),
    ([0xCB#8, 0xB8#8], .res_7_B),
    ([0xCB#8, 0xB9#8], .res_7_C),
    ([0xCB#8, 0xBA#8], .res_7_D),
    ([0xCB#8, 0xBB#8], .res_7_E),
    ([0xCB#8, 0xBC#8], .res_7_H),
    ([0xCB#8, 0xBD#8], .res_7_L),
    ([0xCB#8, 0xBE#8], .res_7_atHL),
    ([0xCB#8, 0xBF#8], .res_7_A) ]

theorem test_decodeExtB : decodeExtB.all decodesTo = true := by decide

/-- Row Cx of the extended table (30_encoding.md R92). -/
def decodeExtC : List (List Byte × Instr) :=
  [
    ([0xCB#8, 0xC0#8], .set_0_B),
    ([0xCB#8, 0xC1#8], .set_0_C),
    ([0xCB#8, 0xC2#8], .set_0_D),
    ([0xCB#8, 0xC3#8], .set_0_E),
    ([0xCB#8, 0xC4#8], .set_0_H),
    ([0xCB#8, 0xC5#8], .set_0_L),
    ([0xCB#8, 0xC6#8], .set_0_atHL),
    ([0xCB#8, 0xC7#8], .set_0_A),
    ([0xCB#8, 0xC8#8], .set_1_B),
    ([0xCB#8, 0xC9#8], .set_1_C),
    ([0xCB#8, 0xCA#8], .set_1_D),
    ([0xCB#8, 0xCB#8], .set_1_E),
    ([0xCB#8, 0xCC#8], .set_1_H),
    ([0xCB#8, 0xCD#8], .set_1_L),
    ([0xCB#8, 0xCE#8], .set_1_atHL),
    ([0xCB#8, 0xCF#8], .set_1_A) ]

theorem test_decodeExtC : decodeExtC.all decodesTo = true := by decide

/-- Row Dx of the extended table (30_encoding.md R92). -/
def decodeExtD : List (List Byte × Instr) :=
  [
    ([0xCB#8, 0xD0#8], .set_2_B),
    ([0xCB#8, 0xD1#8], .set_2_C),
    ([0xCB#8, 0xD2#8], .set_2_D),
    ([0xCB#8, 0xD3#8], .set_2_E),
    ([0xCB#8, 0xD4#8], .set_2_H),
    ([0xCB#8, 0xD5#8], .set_2_L),
    ([0xCB#8, 0xD6#8], .set_2_atHL),
    ([0xCB#8, 0xD7#8], .set_2_A),
    ([0xCB#8, 0xD8#8], .set_3_B),
    ([0xCB#8, 0xD9#8], .set_3_C),
    ([0xCB#8, 0xDA#8], .set_3_D),
    ([0xCB#8, 0xDB#8], .set_3_E),
    ([0xCB#8, 0xDC#8], .set_3_H),
    ([0xCB#8, 0xDD#8], .set_3_L),
    ([0xCB#8, 0xDE#8], .set_3_atHL),
    ([0xCB#8, 0xDF#8], .set_3_A) ]

theorem test_decodeExtD : decodeExtD.all decodesTo = true := by decide

/-- Row Ex of the extended table (30_encoding.md R92). -/
def decodeExtE : List (List Byte × Instr) :=
  [
    ([0xCB#8, 0xE0#8], .set_4_B),
    ([0xCB#8, 0xE1#8], .set_4_C),
    ([0xCB#8, 0xE2#8], .set_4_D),
    ([0xCB#8, 0xE3#8], .set_4_E),
    ([0xCB#8, 0xE4#8], .set_4_H),
    ([0xCB#8, 0xE5#8], .set_4_L),
    ([0xCB#8, 0xE6#8], .set_4_atHL),
    ([0xCB#8, 0xE7#8], .set_4_A),
    ([0xCB#8, 0xE8#8], .set_5_B),
    ([0xCB#8, 0xE9#8], .set_5_C),
    ([0xCB#8, 0xEA#8], .set_5_D),
    ([0xCB#8, 0xEB#8], .set_5_E),
    ([0xCB#8, 0xEC#8], .set_5_H),
    ([0xCB#8, 0xED#8], .set_5_L),
    ([0xCB#8, 0xEE#8], .set_5_atHL),
    ([0xCB#8, 0xEF#8], .set_5_A) ]

theorem test_decodeExtE : decodeExtE.all decodesTo = true := by decide

/-- Row Fx of the extended table (30_encoding.md R92). -/
def decodeExtF : List (List Byte × Instr) :=
  [
    ([0xCB#8, 0xF0#8], .set_6_B),
    ([0xCB#8, 0xF1#8], .set_6_C),
    ([0xCB#8, 0xF2#8], .set_6_D),
    ([0xCB#8, 0xF3#8], .set_6_E),
    ([0xCB#8, 0xF4#8], .set_6_H),
    ([0xCB#8, 0xF5#8], .set_6_L),
    ([0xCB#8, 0xF6#8], .set_6_atHL),
    ([0xCB#8, 0xF7#8], .set_6_A),
    ([0xCB#8, 0xF8#8], .set_7_B),
    ([0xCB#8, 0xF9#8], .set_7_C),
    ([0xCB#8, 0xFA#8], .set_7_D),
    ([0xCB#8, 0xFB#8], .set_7_E),
    ([0xCB#8, 0xFC#8], .set_7_H),
    ([0xCB#8, 0xFD#8], .set_7_L),
    ([0xCB#8, 0xFE#8], .set_7_atHL),
    ([0xCB#8, 0xFF#8], .set_7_A) ]

theorem test_decodeExtF : decodeExtF.all decodesTo = true := by decide

/-! One step, from the vectors of spec/95_test_vectors.md. -/

/-- One item of a start or end state. -/
inductive Item where
  | A (v : Byte)
  | B (v : Byte)
  | C (v : Byte)
  | D (v : Byte)
  | E (v : Byte)
  | F (v : Byte)
  | H (v : Byte)
  | L (v : Byte)
  | BC (w : Word)
  | DE (w : Word)
  | HL (w : Word)
  | SP (w : Word)
  | PC (w : Word)
  | IME (b : Bool)
  | mem (a : Word) (v : Byte)

/-- A state with one item changed, by record updates alone. -/
def Item.put (s : State) : Item → State
  | .A v => { s with a := v }
  | .B v => { s with b := v }
  | .C v => { s with c := v }
  | .D v => { s with d := v }
  | .E v => { s with e := v }
  | .F v => { s with f := v }
  | .H v => { s with h := v }
  | .L v => { s with l := v }
  | .BC w => { s with b := w.extractLsb' 8 8, c := w.extractLsb' 0 8 }
  | .DE w => { s with d := w.extractLsb' 8 8, e := w.extractLsb' 0 8 }
  | .HL w => { s with h := w.extractLsb' 8 8, l := w.extractLsb' 0 8 }
  | .SP w => { s with sp := w }
  | .PC w => { s with pc := w }
  | .IME b => { s with ime := b }
  | .mem a v => s.place a v

/-- A state with every field zero but the items listed: the convention of spec/95_test_vectors.md. -/
def start (items : List Item) : State :=
  items.foldl Item.put
    { a := 0#8, b := 0#8, c := 0#8, d := 0#8, e := 0#8, f := 0#8, h := 0#8, l := 0#8, pc := 0#16, sp := 0#16,
      ime := false, lastClockT := 0, lastClockM := 0, mem := [], bus := Bus.flat, accesses := [],
      unusedWarn := false }

/-- The bytes of an instruction placed from an address on, wrapping. -/
def withCode : State → Word → List Byte → State
  | s, _, [] => s
  | s, a, b :: bs => withCode (s.place a b) (a + 1#16) bs

/-- One vector: the bytes at `PC`, the start state, what the end state has different, and the cost. -/
structure Vec where
  bytes : List Byte
  before : List Item
  after : List Item
  cost : Nat

/-- The start state of a vector. -/
def Vec.start (v : Vec) : State := let s := Tests.start v.before; withCode s s.pc v.bytes

/-- A step from the start state gives exactly the end state; the record of accesses and the strobe are tested apart. -/
def Vec.holds (v : Vec) : Bool :=
  match step v.start with
  | .next t =>
    decide ({ t with accesses := [], unusedWarn := false } =
      { v.after.foldl Item.put v.start with lastClockT := v.cost, lastClockM := v.cost / 4 })
  | .fault _ => false
  | .refused _ => false

/-- V-L1 to V-L11 of spec/95_test_vectors.md 2.1. -/
def vectorsLoads1 : List Vec :=
  [
    ⟨[0x40#8], [.PC 0x0100#16, .B 0x5A#8, .F 0xF0#8], [.B 0x5A#8, .F 0xF0#8, .PC 0x0101#16], 4⟩,
    ⟨[0x7C#8], [.PC 0x0100#16, .A 0x11#8, .H 0xEE#8], [.A 0xEE#8, .F 0x00#8, .PC 0x0101#16], 4⟩,
    ⟨[0x2E#8, 0xFF#8], [.PC 0xFFFF#16], [.L 0xFF#8, .F 0x00#8, .PC 0x0001#16], 8⟩,
    ⟨[0x36#8, 0x5A#8], [.PC 0x0100#16, .HL 0xC000#16], [.mem 0xC000#16 0x5A#8, .F 0x00#8, .PC 0x0102#16], 12⟩,
    ⟨[0x31#8, 0xFE#8, 0xFF#8], [.PC 0x0100#16], [.SP 0xFFFE#16, .F 0x00#8, .PC 0x0103#16], 12⟩,
    ⟨[0x21#8, 0xCD#8, 0xAB#8], [.PC 0xFFFE#16], [.H 0xAB#8, .L 0xCD#8, .F 0x00#8, .PC 0x0001#16], 12⟩,
    ⟨[0x5E#8], [.PC 0x0100#16, .HL 0xC123#16, .mem 0xC123#16 0x9C#8], [.E 0x9C#8, .F 0x00#8, .PC 0x0101#16], 8⟩,
    ⟨[0x74#8], [.PC 0x0100#16, .HL 0xC0DE#16], [.mem 0xC0DE#16 0xC0#8, .F 0x00#8, .PC 0x0101#16], 8⟩,
    ⟨[0x02#8], [.PC 0x0100#16, .BC 0xC010#16, .A 0x01#8], [.mem 0xC010#16 0x01#8, .F 0x00#8, .PC 0x0101#16], 8⟩,
    ⟨[0x1A#8], [.PC 0x0100#16, .DE 0x0104#16, .mem 0x0104#16 0xCE#8], [.A 0xCE#8, .F 0x00#8, .PC 0x0101#16], 8⟩,
    ⟨[0x22#8], [.PC 0x0100#16, .HL 0xFFFF#16, .A 0x11#8], [.H 0x00#8, .L 0x00#8, .mem 0xFFFF#16 0x11#8, .F 0x00#8,
      .PC 0x0101#16], 8⟩ ]

theorem test_vectorsLoads1 : vectorsLoads1.all Vec.holds = true := by decide

/-- V-L12 to V-L22 of spec/95_test_vectors.md 2.1. -/
def vectorsLoads2 : List Vec :=
  [
    ⟨[0x2A#8], [.PC 0x0100#16, .HL 0xC0FF#16, .mem 0xC0FF#16 0x77#8], [.A 0x77#8, .H 0xC1#8, .L 0x00#8, .F 0x00#8,
      .PC 0x0101#16], 8⟩,
    ⟨[0x32#8], [.PC 0x0100#16, .HL 0xC100#16, .A 0x22#8], [.H 0xC0#8, .L 0xFF#8, .mem 0xC100#16 0x22#8, .F 0x00#8,
      .PC 0x0101#16], 8⟩,
    ⟨[0x3A#8], [.PC 0x0100#16, .HL 0x0000#16, .mem 0x0000#16 0x3A#8], [.A 0x3A#8, .H 0xFF#8, .L 0xFF#8, .F 0x00#8,
      .PC 0x0101#16], 8⟩,
    ⟨[0xEA#8, 0x00#8, 0xC2#8], [.PC 0x0100#16, .A 0x3C#8], [.mem 0xC200#16 0x3C#8, .F 0x00#8, .PC 0x0103#16], 16⟩,
    ⟨[0xFA#8, 0x34#8, 0x12#8], [.PC 0x0100#16, .mem 0x1234#16 0x99#8], [.A 0x99#8, .F 0x00#8, .PC 0x0103#16], 16⟩,
    ⟨[0x08#8, 0xFF#8, 0xFF#8], [.PC 0x0100#16, .SP 0xABCD#16], [.mem 0xFFFF#16 0xCD#8, .mem 0x0000#16 0xAB#8,
      .F 0x00#8, .PC 0x0103#16], 20⟩,
    ⟨[0xE0#8, 0xFF#8], [.PC 0x0100#16, .A 0x1F#8], [.mem 0xFFFF#16 0x1F#8, .F 0x00#8, .PC 0x0102#16], 12⟩,
    ⟨[0xF0#8, 0x80#8], [.PC 0x0100#16, .mem 0xFF80#16 0x42#8], [.A 0x42#8, .F 0x00#8, .PC 0x0102#16], 12⟩,
    ⟨[0xE2#8], [.PC 0x0100#16, .C 0x81#8, .A 0x07#8], [.mem 0xFF81#16 0x07#8, .F 0x00#8, .PC 0x0101#16], 8⟩,
    ⟨[0xF2#8], [.PC 0x0100#16, .C 0x00#8, .mem 0xFF00#16 0xCF#8], [.A 0xCF#8, .F 0x00#8, .PC 0x0101#16], 8⟩,
    ⟨[0xF9#8], [.PC 0x0100#16, .SP 0xDFF0#16, .HL 0x1234#16, .F 0xF0#8], [.H 0xDF#8, .L 0xF0#8, .F 0xF0#8,
      .PC 0x0101#16], 8⟩ ]

theorem test_vectorsLoads2 : vectorsLoads2.all Vec.holds = true := by decide

/-- V-A1 to V-A14 of spec/95_test_vectors.md 2.2. -/
def vectorsAlu81 : List Vec :=
  [
    ⟨[0x04#8], [.PC 0x0100#16, .B 0x0F#8], [.B 0x10#8, .F 0x20#8, .PC 0x0101#16], 4⟩,
    ⟨[0x04#8], [.PC 0x0100#16, .B 0xFF#8, .F 0x10#8], [.B 0x00#8, .F 0xB0#8, .PC 0x0101#16], 4⟩,
    ⟨[0x3C#8], [.PC 0x0100#16, .A 0x7F#8, .F 0xC0#8], [.A 0x80#8, .F 0x20#8, .PC 0x0101#16], 4⟩,
    ⟨[0x05#8], [.PC 0x0100#16, .B 0x00#8], [.B 0xFF#8, .F 0x60#8, .PC 0x0101#16], 4⟩,
    ⟨[0x0D#8], [.PC 0x0100#16, .C 0x01#8, .F 0x10#8], [.C 0x00#8, .F 0xD0#8, .PC 0x0101#16], 4⟩,
    ⟨[0x2D#8], [.PC 0x0100#16, .L 0x10#8], [.L 0x0F#8, .F 0x60#8, .PC 0x0101#16], 4⟩,
    ⟨[0x34#8], [.PC 0x0100#16, .HL 0xC000#16, .mem 0xC000#16 0xFF#8], [.mem 0xC000#16 0x00#8, .F 0xA0#8,
      .PC 0x0101#16], 12⟩,
    ⟨[0x35#8], [.PC 0x0100#16, .HL 0xC000#16, .mem 0xC000#16 0x00#8], [.mem 0xC000#16 0xFF#8, .F 0x60#8,
      .PC 0x0101#16], 12⟩,
    ⟨[0x87#8], [.PC 0x0100#16, .A 0x80#8], [.A 0x00#8, .F 0x90#8, .PC 0x0101#16], 4⟩,
    ⟨[0x80#8], [.PC 0x0100#16, .A 0x0F#8, .B 0x01#8, .F 0xC0#8], [.A 0x10#8, .F 0x20#8, .PC 0x0101#16], 4⟩,
    ⟨[0xC6#8, 0x01#8], [.PC 0x0100#16, .A 0xFF#8], [.A 0x00#8, .F 0xB0#8, .PC 0x0102#16], 8⟩,
    ⟨[0x88#8], [.PC 0x0100#16, .A 0xFF#8, .B 0x00#8, .F 0x10#8], [.A 0x00#8, .F 0xB0#8, .PC 0x0101#16], 4⟩,
    ⟨[0x89#8], [.PC 0x0100#16, .A 0x0F#8, .C 0x00#8, .F 0x10#8], [.A 0x10#8, .F 0x20#8, .PC 0x0101#16], 4⟩,
    ⟨[0x8F#8], [.PC 0x0100#16, .A 0x80#8, .F 0x10#8], [.A 0x01#8, .F 0x10#8, .PC 0x0101#16], 4⟩ ]

theorem test_vectorsAlu81 : vectorsAlu81.all Vec.holds = true := by decide

/-- V-A15 to V-A28 of spec/95_test_vectors.md 2.2. -/
def vectorsAlu82 : List Vec :=
  [
    ⟨[0xCE#8, 0xFF#8], [.PC 0x0100#16, .A 0x00#8, .F 0x10#8], [.A 0x00#8, .F 0xB0#8, .PC 0x0102#16], 8⟩,
    ⟨[0x97#8], [.PC 0x0100#16, .A 0x5A#8, .F 0x10#8], [.A 0x00#8, .F 0xC0#8, .PC 0x0101#16], 4⟩,
    ⟨[0x90#8], [.PC 0x0100#16, .A 0x10#8, .B 0x01#8], [.A 0x0F#8, .F 0x60#8, .PC 0x0101#16], 4⟩,
    ⟨[0xD6#8, 0x01#8], [.PC 0x0100#16, .A 0x00#8], [.A 0xFF#8, .F 0x70#8, .PC 0x0102#16], 8⟩,
    ⟨[0xB8#8], [.PC 0x0100#16, .A 0x00#8, .B 0x01#8], [.A 0x00#8, .F 0x70#8, .PC 0x0101#16], 4⟩,
    ⟨[0xFE#8, 0x00#8], [.PC 0x0100#16, .A 0x00#8, .F 0x10#8], [.A 0x00#8, .F 0xC0#8, .PC 0x0102#16], 8⟩,
    ⟨[0x98#8], [.PC 0x0100#16, .A 0x00#8, .B 0x00#8, .F 0x10#8], [.A 0xFF#8, .F 0x70#8, .PC 0x0101#16], 4⟩,
    ⟨[0x98#8], [.PC 0x0100#16, .A 0x10#8, .B 0x0F#8, .F 0x10#8], [.A 0x00#8, .F 0xE0#8, .PC 0x0101#16], 4⟩,
    ⟨[0x9F#8], [.PC 0x0100#16, .A 0x77#8, .F 0x10#8], [.A 0xFF#8, .F 0x70#8, .PC 0x0101#16], 4⟩,
    ⟨[0xDE#8, 0xFF#8], [.PC 0x0100#16, .A 0x00#8, .F 0x10#8], [.A 0x00#8, .F 0xF0#8, .PC 0x0102#16], 8⟩,
    ⟨[0xA7#8], [.PC 0x0100#16, .A 0x00#8, .F 0x50#8], [.A 0x00#8, .F 0xA0#8, .PC 0x0101#16], 4⟩,
    ⟨[0xE6#8, 0x0F#8], [.PC 0x0100#16, .A 0xF0#8, .F 0x10#8], [.A 0x00#8, .F 0xA0#8, .PC 0x0102#16], 8⟩,
    ⟨[0xB7#8], [.PC 0x0100#16, .A 0x00#8, .F 0x70#8], [.A 0x00#8, .F 0x80#8, .PC 0x0101#16], 4⟩,
    ⟨[0xB6#8], [.PC 0x0100#16, .A 0x5A#8, .HL 0xC000#16, .mem 0xC000#16 0x0F#8], [.A 0x5F#8, .F 0x00#8,
      .PC 0x0101#16], 8⟩ ]

theorem test_vectorsAlu82 : vectorsAlu82.all Vec.holds = true := by decide

/-- V-A29 to V-A41 of spec/95_test_vectors.md 2.2. -/
def vectorsAlu83 : List Vec :=
  [
    ⟨[0xAF#8], [.PC 0x0100#16, .A 0xFF#8, .F 0x70#8], [.A 0x00#8, .F 0x80#8, .PC 0x0101#16], 4⟩,
    ⟨[0xEE#8, 0xFF#8], [.PC 0x0100#16, .A 0xFF#8], [.A 0x00#8, .F 0x80#8, .PC 0x0102#16], 8⟩,
    ⟨[0x2F#8], [.PC 0x0100#16, .A 0x00#8, .F 0x90#8], [.A 0xFF#8, .F 0xF0#8, .PC 0x0101#16], 4⟩,
    ⟨[0x37#8], [.PC 0x0100#16, .F 0xE0#8], [.F 0x90#8, .PC 0x0101#16], 4⟩,
    ⟨[0x3F#8], [.PC 0x0100#16, .F 0xF0#8], [.F 0x80#8, .PC 0x0101#16], 4⟩,
    ⟨[0x3F#8], [.PC 0x0100#16, .F 0x00#8], [.F 0x10#8, .PC 0x0101#16], 4⟩,
    ⟨[0x07#8], [.PC 0x0100#16, .A 0x80#8, .F 0xE0#8], [.A 0x01#8, .F 0x10#8, .PC 0x0101#16], 4⟩,
    ⟨[0x07#8], [.PC 0x0100#16, .A 0x00#8, .F 0xF0#8], [.A 0x00#8, .F 0x00#8, .PC 0x0101#16], 4⟩,
    ⟨[0x17#8], [.PC 0x0100#16, .A 0x80#8, .F 0x00#8], [.A 0x00#8, .F 0x10#8, .PC 0x0101#16], 4⟩,
    ⟨[0x17#8], [.PC 0x0100#16, .A 0x00#8, .F 0x10#8], [.A 0x01#8, .F 0x00#8, .PC 0x0101#16], 4⟩,
    ⟨[0x0F#8], [.PC 0x0100#16, .A 0x01#8], [.A 0x80#8, .F 0x10#8, .PC 0x0101#16], 4⟩,
    ⟨[0x1F#8], [.PC 0x0100#16, .A 0x01#8, .F 0x00#8], [.A 0x00#8, .F 0x10#8, .PC 0x0101#16], 4⟩,
    ⟨[0x1F#8], [.PC 0x0100#16, .A 0x00#8, .F 0x10#8], [.A 0x80#8, .F 0x00#8, .PC 0x0101#16], 4⟩ ]

theorem test_vectorsAlu83 : vectorsAlu83.all Vec.holds = true := by decide

/-- V-D1 to V-D16 of spec/95_test_vectors.md 2.3. -/
def vectorsDaa : List Vec :=
  [
    ⟨[0x27#8], [.PC 0x0100#16, .A 0x7D#8, .F 0x00#8], [.A 0x83#8, .F 0x00#8, .PC 0x0101#16], 4⟩,
    ⟨[0x27#8], [.PC 0x0100#16, .A 0x45#8, .F 0x00#8], [.A 0x45#8, .F 0x00#8, .PC 0x0101#16], 4⟩,
    ⟨[0x27#8], [.PC 0x0100#16, .A 0x45#8, .F 0x10#8], [.A 0xA5#8, .F 0x10#8, .PC 0x0101#16], 4⟩,
    ⟨[0x27#8], [.PC 0x0100#16, .A 0x00#8, .F 0x00#8], [.A 0x00#8, .F 0x80#8, .PC 0x0101#16], 4⟩,
    ⟨[0x27#8], [.PC 0x0100#16, .A 0x9A#8, .F 0x00#8], [.A 0x00#8, .F 0x90#8, .PC 0x0101#16], 4⟩,
    ⟨[0x27#8], [.PC 0x0100#16, .A 0x0A#8, .F 0x00#8], [.A 0x10#8, .F 0x00#8, .PC 0x0101#16], 4⟩,
    ⟨[0x27#8], [.PC 0x0100#16, .A 0xA0#8, .F 0x00#8], [.A 0x00#8, .F 0x90#8, .PC 0x0101#16], 4⟩,
    ⟨[0x27#8], [.PC 0x0100#16, .A 0x12#8, .F 0x20#8], [.A 0x18#8, .F 0x00#8, .PC 0x0101#16], 4⟩,
    ⟨[0x27#8], [.PC 0x0100#16, .A 0x99#8, .F 0x00#8], [.A 0x99#8, .F 0x00#8, .PC 0x0101#16], 4⟩,
    ⟨[0x27#8], [.PC 0x0100#16, .A 0xFF#8, .F 0x30#8], [.A 0x65#8, .F 0x10#8, .PC 0x0101#16], 4⟩,
    ⟨[0x27#8], [.PC 0x0100#16, .A 0x39#8, .F 0x60#8], [.A 0x33#8, .F 0x40#8, .PC 0x0101#16], 4⟩,
    ⟨[0x27#8], [.PC 0x0100#16, .A 0x0F#8, .F 0x60#8], [.A 0x09#8, .F 0x40#8, .PC 0x0101#16], 4⟩,
    ⟨[0x27#8], [.PC 0x0100#16, .A 0x00#8, .F 0xC0#8], [.A 0x00#8, .F 0xC0#8, .PC 0x0101#16], 4⟩,
    ⟨[0x27#8], [.PC 0x0100#16, .A 0x60#8, .F 0x50#8], [.A 0x00#8, .F 0xD0#8, .PC 0x0101#16], 4⟩,
    ⟨[0x27#8], [.PC 0x0100#16, .A 0xFF#8, .F 0x70#8], [.A 0x99#8, .F 0x50#8, .PC 0x0101#16], 4⟩,
    ⟨[0x27#8], [.PC 0x0100#16, .A 0x9A#8, .F 0x40#8], [.A 0x9A#8, .F 0x40#8, .PC 0x0101#16], 4⟩ ]

theorem test_vectorsDaa : vectorsDaa.all Vec.holds = true := by decide

/-- V-W1 to V-W9 of spec/95_test_vectors.md 2.4. -/
def vectorsAlu161 : List Vec :=
  [
    ⟨[0xF8#8, 0x02#8], [.PC 0x0100#16, .SP 0xFFF8#16, .F 0xF0#8], [.H 0xFF#8, .L 0xFA#8, .F 0x00#8, .PC 0x0102#16],
      12⟩,
    ⟨[0xF8#8, 0x80#8], [.PC 0x0100#16, .SP 0x0080#16], [.H 0x00#8, .L 0x00#8, .F 0x10#8, .PC 0x0102#16], 12⟩,
    ⟨[0xF8#8, 0xFF#8], [.PC 0x0100#16, .SP 0x0001#16, .F 0x80#8], [.H 0x00#8, .L 0x00#8, .F 0x30#8, .PC 0x0102#16],
      12⟩,
    ⟨[0xF8#8, 0x00#8], [.PC 0x0100#16, .SP 0x0000#16, .F 0xF0#8], [.H 0x00#8, .L 0x00#8, .F 0x00#8, .PC 0x0102#16],
      12⟩,
    ⟨[0xE8#8, 0x01#8], [.PC 0x0100#16, .SP 0x00FF#16], [.SP 0x0100#16, .F 0x30#8, .PC 0x0102#16], 16⟩,
    ⟨[0xE8#8, 0xFF#8], [.PC 0x0100#16, .SP 0x0000#16], [.SP 0xFFFF#16, .F 0x00#8, .PC 0x0102#16], 16⟩,
    ⟨[0xE8#8, 0x7F#8], [.PC 0x0100#16, .SP 0xFFFF#16], [.SP 0x007E#16, .F 0x30#8, .PC 0x0102#16], 16⟩,
    ⟨[0xE8#8, 0x80#8], [.PC 0x0100#16, .SP 0x1000#16], [.SP 0x0F80#16, .F 0x00#8, .PC 0x0102#16], 16⟩,
    ⟨[0x03#8], [.PC 0x0100#16, .BC 0x00FF#16, .F 0xF0#8], [.B 0x01#8, .C 0x00#8, .F 0xF0#8, .PC 0x0101#16], 8⟩ ]

theorem test_vectorsAlu161 : vectorsAlu161.all Vec.holds = true := by decide

/-- V-W10 to V-W17 of spec/95_test_vectors.md 2.4. -/
def vectorsAlu162 : List Vec :=
  [
    ⟨[0x33#8], [.PC 0x0100#16, .SP 0xFFFF#16], [.SP 0x0000#16, .F 0x00#8, .PC 0x0101#16], 8⟩,
    ⟨[0x2B#8], [.PC 0x0100#16, .HL 0x0000#16, .F 0x00#8], [.H 0xFF#8, .L 0xFF#8, .F 0x00#8, .PC 0x0101#16], 8⟩,
    ⟨[0x1B#8], [.PC 0x0100#16, .DE 0x0100#16], [.D 0x00#8, .E 0xFF#8, .F 0x00#8, .PC 0x0101#16], 8⟩,
    ⟨[0x09#8], [.PC 0x0100#16, .HL 0xFFFF#16, .BC 0x0001#16, .F 0x00#8], [.H 0x00#8, .L 0x00#8, .F 0x30#8,
      .PC 0x0101#16], 8⟩,
    ⟨[0x09#8], [.PC 0x0100#16, .HL 0xFFFF#16, .BC 0x0001#16, .F 0xC0#8], [.H 0x00#8, .L 0x00#8, .F 0xB0#8,
      .PC 0x0101#16], 8⟩,
    ⟨[0x19#8], [.PC 0x0100#16, .HL 0x0FFF#16, .DE 0x0001#16, .F 0x80#8], [.H 0x10#8, .L 0x00#8, .F 0xA0#8,
      .PC 0x0101#16], 8⟩,
    ⟨[0x29#8], [.PC 0x0100#16, .HL 0x8000#16], [.H 0x00#8, .L 0x00#8, .F 0x10#8, .PC 0x0101#16], 8⟩,
    ⟨[0x39#8], [.PC 0x0100#16, .HL 0x1234#16, .SP 0x0F00#16, .F 0x50#8], [.H 0x21#8, .L 0x34#8, .F 0x20#8,
      .PC 0x0101#16], 8⟩ ]

theorem test_vectorsAlu162 : vectorsAlu162.all Vec.holds = true := by decide

/-- V-S1 to V-S16 of spec/95_test_vectors.md 2.5. -/
def vectorsStackControl1 : List Vec :=
  [
    ⟨[0xF5#8], [.PC 0x0100#16, .A 0x12#8, .F 0xB0#8, .SP 0xD000#16], [.SP 0xCFFE#16, .mem 0xCFFE#16 0xB0#8,
      .mem 0xCFFF#16 0x12#8, .F 0xB0#8, .PC 0x0101#16], 16⟩,
    ⟨[0xE5#8], [.PC 0x0100#16, .HL 0xBEEF#16, .SP 0x0001#16], [.SP 0xFFFF#16, .mem 0xFFFF#16 0xEF#8,
      .mem 0x0000#16 0xBE#8, .F 0x00#8, .PC 0x0101#16], 16⟩,
    ⟨[0xF1#8], [.PC 0x0100#16, .SP 0xCFFE#16, .mem 0xCFFE#16 0xFF#8, .mem 0xCFFF#16 0x12#8], [.A 0x12#8,
      .SP 0xD000#16, .F 0xF0#8, .PC 0x0101#16], 12⟩,
    ⟨[0xC1#8], [.PC 0x0100#16, .SP 0xFFFF#16, .mem 0xFFFF#16 0x34#8, .mem 0x0000#16 0x12#8], [.B 0x12#8, .C 0x34#8,
      .SP 0x0001#16, .F 0x00#8, .PC 0x0101#16], 12⟩,
    ⟨[0xD1#8], [.PC 0x0100#16, .SP 0xCFFE#16, .F 0xF0#8, .mem 0xCFFE#16 0xCD#8, .mem 0xCFFF#16 0xAB#8], [.D 0xAB#8,
      .E 0xCD#8, .SP 0xD000#16, .F 0xF0#8, .PC 0x0101#16], 12⟩,
    ⟨[0xC3#8, 0x50#8, 0x01#8], [.PC 0x0100#16], [.F 0x00#8, .PC 0x0150#16], 16⟩,
    ⟨[0xE9#8], [.PC 0x0100#16, .HL 0xC123#16], [.F 0x00#8, .PC 0xC123#16], 4⟩,
    ⟨[0xC2#8, 0x00#8, 0x02#8], [.PC 0x0100#16, .F 0x00#8], [.F 0x00#8, .PC 0x0200#16], 16⟩,
    ⟨[0xC2#8, 0x00#8, 0x02#8], [.PC 0x0100#16, .F 0x80#8], [.F 0x80#8, .PC 0x0103#16], 12⟩,
    ⟨[0xCA#8, 0x00#8, 0x02#8], [.PC 0x0100#16, .F 0x80#8], [.F 0x80#8, .PC 0x0200#16], 16⟩,
    ⟨[0xD2#8, 0x00#8, 0x02#8], [.PC 0x0100#16, .F 0x10#8], [.F 0x10#8, .PC 0x0103#16], 12⟩,
    ⟨[0xDA#8, 0x00#8, 0x02#8], [.PC 0x0100#16, .F 0x10#8], [.F 0x10#8, .PC 0x0200#16], 16⟩,
    ⟨[0x18#8, 0xFE#8], [.PC 0x0100#16], [.F 0x00#8, .PC 0x0100#16], 12⟩,
    ⟨[0x18#8, 0x80#8], [.PC 0x0100#16], [.F 0x00#8, .PC 0x0082#16], 12⟩,
    ⟨[0x18#8, 0x7F#8], [.PC 0x0100#16], [.F 0x00#8, .PC 0x0181#16], 12⟩,
    ⟨[0x18#8, 0x05#8], [.PC 0xFFFE#16], [.F 0x00#8, .PC 0x0005#16], 12⟩ ]

theorem test_vectorsStackControl1 : vectorsStackControl1.all Vec.holds = true := by decide

/-- V-S17 to V-S31 of spec/95_test_vectors.md 2.5. -/
def vectorsStackControl2 : List Vec :=
  [
    ⟨[0x30#8, 0x10#8], [.PC 0x0100#16, .F 0x10#8], [.F 0x10#8, .PC 0x0102#16], 8⟩,
    ⟨[0x30#8, 0x10#8], [.PC 0x0100#16, .F 0x00#8], [.F 0x00#8, .PC 0x0112#16], 12⟩,
    ⟨[0x28#8, 0xFB#8], [.PC 0x0100#16, .F 0x80#8], [.F 0x80#8, .PC 0x00FD#16], 12⟩,
    ⟨[0xCD#8, 0x34#8, 0x12#8], [.PC 0x0200#16, .SP 0xFFFE#16], [.SP 0xFFFC#16, .mem 0xFFFC#16 0x03#8,
      .mem 0xFFFD#16 0x02#8, .F 0x00#8, .PC 0x1234#16], 24⟩,
    ⟨[0xCD#8, 0x00#8, 0x40#8], [.PC 0xFFFD#16, .SP 0xD000#16], [.SP 0xCFFE#16, .mem 0xCFFE#16 0x00#8,
      .mem 0xCFFF#16 0x00#8, .F 0x00#8, .PC 0x4000#16], 24⟩,
    ⟨[0xDC#8, 0x00#8, 0x30#8], [.PC 0x0100#16, .SP 0xD000#16, .F 0x00#8], [.F 0x00#8, .PC 0x0103#16], 12⟩,
    ⟨[0xDC#8, 0x00#8, 0x30#8], [.PC 0x0100#16, .SP 0xD000#16, .F 0x10#8], [.SP 0xCFFE#16, .mem 0xCFFE#16 0x03#8,
      .mem 0xCFFF#16 0x01#8, .F 0x10#8, .PC 0x3000#16], 24⟩,
    ⟨[0xC9#8], [.PC 0x0100#16, .SP 0xFFFC#16, .mem 0xFFFC#16 0x03#8, .mem 0xFFFD#16 0x02#8], [.SP 0xFFFE#16,
      .F 0x00#8, .PC 0x0203#16], 16⟩,
    ⟨[0xC0#8], [.PC 0x0100#16, .SP 0xFFFC#16, .F 0x80#8, .mem 0xFFFC#16 0x03#8, .mem 0xFFFD#16 0x02#8], [.F 0x80#8,
      .PC 0x0101#16], 8⟩,
    ⟨[0xC0#8], [.PC 0x0100#16, .SP 0xFFFC#16, .F 0x00#8, .mem 0xFFFC#16 0x03#8, .mem 0xFFFD#16 0x02#8],
      [.SP 0xFFFE#16, .F 0x00#8, .PC 0x0203#16], 20⟩,
    ⟨[0xD8#8], [.PC 0x0100#16, .SP 0xFFFC#16, .F 0x10#8, .mem 0xFFFC#16 0x03#8, .mem 0xFFFD#16 0x02#8],
      [.SP 0xFFFE#16, .F 0x10#8, .PC 0x0203#16], 20⟩,
    ⟨[0xD9#8], [.PC 0x0100#16, .SP 0xDFFE#16, .IME false, .mem 0xDFFE#16 0x50#8, .mem 0xDFFF#16 0x01#8],
      [.SP 0xE000#16, .IME true, .F 0x00#8, .PC 0x0150#16], 16⟩,
    ⟨[0xDF#8], [.PC 0xA04F#16, .SP 0xFFF0#16], [.SP 0xFFEE#16, .mem 0xFFEE#16 0x50#8, .mem 0xFFEF#16 0xA0#8,
      .F 0x00#8, .PC 0x0018#16], 16⟩,
    ⟨[0xC7#8], [.PC 0x0100#16, .SP 0x0000#16], [.SP 0xFFFE#16, .mem 0xFFFE#16 0x01#8, .mem 0xFFFF#16 0x01#8,
      .F 0x00#8, .PC 0x0000#16], 16⟩,
    ⟨[0xFF#8], [.PC 0x0038#16, .SP 0xD000#16], [.SP 0xCFFE#16, .mem 0xCFFE#16 0x39#8, .mem 0xCFFF#16 0x00#8,
      .F 0x00#8, .PC 0x0038#16], 16⟩ ]

theorem test_vectorsStackControl2 : vectorsStackControl2.all Vec.holds = true := by decide

/-- V-Y1 to V-Y9 of spec/95_test_vectors.md 2.6. -/
def vectorsSystem1 : List Vec :=
  [
    ⟨[0xFB#8], [.PC 0x0100#16, .IME false], [.IME true, .F 0x00#8, .PC 0x0101#16], 4⟩,
    ⟨[0xFB#8], [.PC 0x0100#16, .IME true], [.F 0x00#8, .PC 0x0101#16], 4⟩,
    ⟨[0xF3#8], [.PC 0x0100#16, .IME true], [.IME false, .F 0x00#8, .PC 0x0101#16], 4⟩,
    ⟨[0x00#8], [.PC 0xFFFF#16, .F 0xF0#8], [.F 0xF0#8, .PC 0x0000#16], 4⟩,
    ⟨[0x76#8], [.PC 0x0100#16, .HL 0xC000#16, .mem 0xC000#16 0x55#8], [.F 0x00#8, .PC 0x0101#16], 4⟩,
    ⟨[0x10#8, 0x00#8], [.PC 0x0100#16], [.F 0x00#8, .PC 0x0101#16], 4⟩,
    ⟨[0xD3#8, 0xAA#8, 0xBB#8], [.PC 0x0100#16, .A 0x12#8, .F 0xF0#8, .SP 0xD000#16, .IME true], [.F 0xF0#8,
      .PC 0x0101#16], 4⟩,
    ⟨[0xDB#8, 0xAA#8, 0xBB#8], [.PC 0x0100#16, .A 0x12#8, .F 0xF0#8, .SP 0xD000#16, .IME true], [.F 0xF0#8,
      .PC 0x0101#16], 4⟩,
    ⟨[0xDD#8, 0xAA#8, 0xBB#8], [.PC 0x0100#16, .A 0x12#8, .F 0xF0#8, .SP 0xD000#16, .IME true], [.F 0xF0#8,
      .PC 0x0101#16], 4⟩ ]

theorem test_vectorsSystem1 : vectorsSystem1.all Vec.holds = true := by decide

/-- V-Y10 to V-Y17 of spec/95_test_vectors.md 2.6. -/
def vectorsSystem2 : List Vec :=
  [
    ⟨[0xE3#8, 0xAA#8, 0xBB#8], [.PC 0x0100#16, .A 0x12#8, .F 0xF0#8, .SP 0xD000#16, .IME true], [.F 0xF0#8,
      .PC 0x0101#16], 4⟩,
    ⟨[0xE4#8, 0xAA#8, 0xBB#8], [.PC 0x0100#16, .A 0x12#8, .F 0xF0#8, .SP 0xD000#16, .IME true], [.F 0xF0#8,
      .PC 0x0101#16], 4⟩,
    ⟨[0xEB#8, 0xAA#8, 0xBB#8], [.PC 0x0100#16, .A 0x12#8, .F 0xF0#8, .SP 0xD000#16, .IME true], [.F 0xF0#8,
      .PC 0x0101#16], 4⟩,
    ⟨[0xEC#8, 0xAA#8, 0xBB#8], [.PC 0x0100#16, .A 0x12#8, .F 0xF0#8, .SP 0xD000#16, .IME true], [.F 0xF0#8,
      .PC 0x0101#16], 4⟩,
    ⟨[0xED#8, 0xAA#8, 0xBB#8], [.PC 0x0100#16, .A 0x12#8, .F 0xF0#8, .SP 0xD000#16, .IME true], [.F 0xF0#8,
      .PC 0x0101#16], 4⟩,
    ⟨[0xF4#8, 0xAA#8, 0xBB#8], [.PC 0x0100#16, .A 0x12#8, .F 0xF0#8, .SP 0xD000#16, .IME true], [.F 0xF0#8,
      .PC 0x0101#16], 4⟩,
    ⟨[0xFC#8, 0xAA#8, 0xBB#8], [.PC 0x0100#16, .A 0x12#8, .F 0xF0#8, .SP 0xD000#16, .IME true], [.F 0xF0#8,
      .PC 0x0101#16], 4⟩,
    ⟨[0xFD#8, 0xAA#8, 0xBB#8], [.PC 0x0100#16, .A 0x12#8, .F 0xF0#8, .SP 0xD000#16, .IME true], [.F 0xF0#8,
      .PC 0x0101#16], 4⟩ ]

theorem test_vectorsSystem2 : vectorsSystem2.all Vec.holds = true := by decide

/-- V-X1 to V-X16 of spec/95_test_vectors.md 2.7. -/
def vectorsExtended1 : List Vec :=
  [
    ⟨[0xCB#8, 0x00#8], [.PC 0x0100#16, .B 0x80#8, .F 0xE0#8], [.B 0x01#8, .F 0x10#8, .PC 0x0102#16], 8⟩,
    ⟨[0xCB#8, 0x07#8], [.PC 0x0100#16, .A 0x00#8, .F 0x10#8], [.A 0x00#8, .F 0x80#8, .PC 0x0102#16], 8⟩,
    ⟨[0xCB#8, 0x09#8], [.PC 0x0100#16, .C 0x01#8], [.C 0x80#8, .F 0x10#8, .PC 0x0102#16], 8⟩,
    ⟨[0xCB#8, 0x12#8], [.PC 0x0100#16, .D 0x80#8, .F 0x10#8], [.D 0x01#8, .F 0x10#8, .PC 0x0102#16], 8⟩,
    ⟨[0xCB#8, 0x17#8], [.PC 0x0100#16, .A 0x80#8, .F 0x00#8], [.A 0x00#8, .F 0x90#8, .PC 0x0102#16], 8⟩,
    ⟨[0xCB#8, 0x1B#8], [.PC 0x0100#16, .E 0x01#8, .F 0x10#8], [.E 0x80#8, .F 0x10#8, .PC 0x0102#16], 8⟩,
    ⟨[0xCB#8, 0x1F#8], [.PC 0x0100#16, .A 0x00#8, .F 0x00#8], [.A 0x00#8, .F 0x80#8, .PC 0x0102#16], 8⟩,
    ⟨[0xCB#8, 0x24#8], [.PC 0x0100#16, .H 0x80#8], [.H 0x00#8, .F 0x90#8, .PC 0x0102#16], 8⟩,
    ⟨[0xCB#8, 0x20#8], [.PC 0x0100#16, .B 0x55#8, .F 0x10#8], [.B 0xAA#8, .F 0x00#8, .PC 0x0102#16], 8⟩,
    ⟨[0xCB#8, 0x2D#8], [.PC 0x0100#16, .L 0x80#8], [.L 0xC0#8, .F 0x00#8, .PC 0x0102#16], 8⟩,
    ⟨[0xCB#8, 0x2F#8], [.PC 0x0100#16, .A 0x01#8], [.A 0x00#8, .F 0x90#8, .PC 0x0102#16], 8⟩,
    ⟨[0xCB#8, 0x2F#8], [.PC 0x0100#16, .A 0xFF#8], [.A 0xFF#8, .F 0x10#8, .PC 0x0102#16], 8⟩,
    ⟨[0xCB#8, 0x37#8], [.PC 0x0100#16, .A 0x00#8, .F 0x70#8], [.A 0x00#8, .F 0x80#8, .PC 0x0102#16], 8⟩,
    ⟨[0xCB#8, 0x30#8], [.PC 0x0100#16, .B 0xA5#8, .F 0x10#8], [.B 0x5A#8, .F 0x00#8, .PC 0x0102#16], 8⟩,
    ⟨[0xCB#8, 0x3F#8], [.PC 0x0100#16, .A 0x01#8], [.A 0x00#8, .F 0x90#8, .PC 0x0102#16], 8⟩,
    ⟨[0xCB#8, 0x39#8], [.PC 0x0100#16, .C 0x80#8, .F 0x10#8], [.C 0x40#8, .F 0x00#8, .PC 0x0102#16], 8⟩ ]

theorem test_vectorsExtended1 : vectorsExtended1.all Vec.holds = true := by decide

/-- V-X17 to V-X31 of spec/95_test_vectors.md 2.7. -/
def vectorsExtended2 : List Vec :=
  [
    ⟨[0xCB#8, 0x06#8], [.PC 0x0100#16, .HL 0xC000#16, .mem 0xC000#16 0x81#8], [.mem 0xC000#16 0x03#8, .F 0x10#8,
      .PC 0x0102#16], 16⟩,
    ⟨[0xCB#8, 0x1E#8], [.PC 0x0100#16, .HL 0xC000#16, .F 0x10#8, .mem 0xC000#16 0x8A#8], [.mem 0xC000#16 0xC5#8,
      .F 0x00#8, .PC 0x0102#16], 16⟩,
    ⟨[0xCB#8, 0x36#8], [.PC 0x0100#16, .HL 0xC000#16, .mem 0xC000#16 0x0F#8], [.mem 0xC000#16 0xF0#8, .F 0x00#8,
      .PC 0x0102#16], 16⟩,
    ⟨[0xCB#8, 0x7C#8], [.PC 0x0100#16, .H 0x80#8, .F 0x50#8], [.H 0x80#8, .F 0x30#8, .PC 0x0102#16], 8⟩,
    ⟨[0xCB#8, 0x40#8], [.PC 0x0100#16, .B 0xFE#8, .F 0x00#8], [.B 0xFE#8, .F 0xA0#8, .PC 0x0102#16], 8⟩,
    ⟨[0xCB#8, 0x65#8], [.PC 0x0100#16, .L 0xEF#8, .F 0x10#8], [.L 0xEF#8, .F 0xB0#8, .PC 0x0102#16], 8⟩,
    ⟨[0xCB#8, 0x46#8], [.PC 0x0100#16, .HL 0xC000#16, .mem 0xC000#16 0xFE#8], [.F 0xA0#8, .PC 0x0102#16], 16⟩,
    ⟨[0xCB#8, 0x7E#8], [.PC 0x0100#16, .HL 0xC000#16, .F 0x90#8, .mem 0xC000#16 0x80#8], [.F 0x30#8, .PC 0x0102#16],
      16⟩,
    ⟨[0xCB#8, 0xBF#8], [.PC 0x0100#16, .A 0x80#8, .F 0x00#8], [.A 0x00#8, .F 0x00#8, .PC 0x0102#16], 8⟩,
    ⟨[0xCB#8, 0x80#8], [.PC 0x0100#16, .B 0xFE#8, .F 0xF0#8], [.B 0xFE#8, .F 0xF0#8, .PC 0x0102#16], 8⟩,
    ⟨[0xCB#8, 0x9E#8], [.PC 0x0100#16, .HL 0xC000#16, .mem 0xC000#16 0xFF#8], [.mem 0xC000#16 0xF7#8, .F 0x00#8,
      .PC 0x0102#16], 16⟩,
    ⟨[0xCB#8, 0xDF#8], [.PC 0x0100#16, .A 0x80#8, .F 0xF0#8], [.A 0x88#8, .F 0xF0#8, .PC 0x0102#16], 8⟩,
    ⟨[0xCB#8, 0xC3#8], [.PC 0x0100#16, .E 0x01#8], [.E 0x01#8, .F 0x00#8, .PC 0x0102#16], 8⟩,
    ⟨[0xCB#8, 0xFE#8], [.PC 0x0100#16, .HL 0xC000#16, .mem 0xC000#16 0x00#8], [.mem 0xC000#16 0x80#8, .F 0x00#8,
      .PC 0x0102#16], 16⟩,
    ⟨[0xCB#8, 0x00#8], [.PC 0xFFFF#16, .B 0x01#8], [.B 0x02#8, .F 0x00#8, .PC 0x0001#16], 8⟩ ]

theorem test_vectorsExtended2 : vectorsExtended2.all Vec.holds = true := by decide

/-! The bus accesses of one step, in order, and the strobe. -/

/-- The accesses of a step from the start state, and the strobe. -/
def Vec.issues (v : Vec) (xs : List Access) (warn : Bool) : Bool :=
  match step v.start with
  | .next t => decide (t.accesses = xs) && decide (t.unusedWarn = warn)
  | .fault _ => false
  | .refused _ => false

/-- spec/95_test_vectors.md P2, step 3 (`CALL 0x0210`) and step 9 (`CALL NC` not taken: no operand read). -/
theorem test_accesses_call :
    Vec.issues ⟨[0xCD#8, 0x10#8, 0x02#8], [.PC 0x0206#16, .SP 0xD000#16], [], 24⟩
        [.read 0x0206#16 0xCD#8, .read 0x0207#16 0x10#8, .read 0x0208#16 0x02#8,
          .write 0xCFFE#16 0x09#8, .write 0xCFFF#16 0x02#8] false = true ∧
      Vec.issues ⟨[0xD4#8, 0x20#8, 0x02#8], [.PC 0x0209#16, .SP 0xD000#16, .F 0x10#8], [], 12⟩
        [.read 0x0209#16 0xD4#8] false = true := by decide

/-- spec/95_test_vectors.md P4, step 8 (`SET 1,[HL]`: read, then write) and step 11 (`BIT 0,[HL]`: read only). -/
theorem test_accesses_bits :
    Vec.issues ⟨[0xCB#8, 0xCE#8], [.PC 0x015E#16, .HL 0xFF80#16, .mem 0xFF80#16 0x81#8], [], 16⟩
        [.read 0x015E#16 0xCB#8, .read 0x015F#16 0xCE#8, .read 0xFF80#16 0x81#8, .write 0xFF80#16 0x83#8]
        false = true ∧
      Vec.issues ⟨[0xCB#8, 0x46#8], [.PC 0x0164#16, .HL 0xFF80#16, .mem 0xFF80#16 0x03#8], [], 16⟩
        [.read 0x0164#16 0xCB#8, .read 0x0165#16 0x46#8, .read 0xFF80#16 0x03#8] false = true := by decide

/-- spec/95_test_vectors.md P5, step 5 (`LD [0xD000],SP`) and step 11 (an unused opcode: one read, the strobe up). -/
theorem test_accesses_store_SP :
    Vec.issues ⟨[0x08#8, 0x00#8, 0xD0#8], [.PC 0xC008#16, .SP 0x0100#16], [], 20⟩
        [.read 0xC008#16 0x08#8, .read 0xC009#16 0x00#8, .read 0xC00A#16 0xD0#8,
          .write 0xD000#16 0x00#8, .write 0xD001#16 0x01#8] false = true ∧
      Vec.issues ⟨[0xDD#8], [.PC 0xC010#16], [], 4⟩ [.read 0xC010#16 0xDD#8] true = true := by decide

/-- A word placed where the reset state fetches is the first instruction run: 0x5A06 is the opcode of `LD B,d8` with 0x5A above
it (30_encoding.md R98). -/
theorem test_withFetchWord_runs_first :
    (match step (State.reset.withFetchWord 16 0x5A06) with
      | .next t => decide (t.b = 0x5A#8) && decide (t.pc = 2#16)
      | .fault _ => false
      | .refused _ => false) = true := by decide

/-- A word placed where the bus is no plain memory is run all the same. -/
theorem test_withFetchWord_on_any_bus :
    (match step (({ State.reset with bus := { Bus.flat with ram := [] }, pc := 0xFFFF#16 } : State).withFetchWord 16 0x5A06) with
      | .next t => decide (t.b = 0x5A#8) && decide (t.pc = 1#16)
      | .fault _ => false
      | .refused _ => false) = true := by decide

/-! Witnesses: concrete states and operands that meet the hypotheses of each statement, together. -/

/-- The vector's start state has a next state. -/
def runsFrom (s : State) : Prop := ∃ t, step s = .next t

/-- A state with two bytes of memory listed, one of them at the top of the address space. -/
def twoBytes : State := start [.mem 0x0000#16 0x12#8, .mem 0xFFFF#16 0x34#8, .SP 0xFFFF#16, .HL 0xFFFF#16]

/-- A bus that ignores writes below 0x8000 (20_memory.md R56), with a word listed at the top of the part it ignores. -/
def romBelow : State :=
  { start [.mem 0x7FFF#16 0x12#8, .HL 0x7FFF#16, .SP 0x8000#16] with
    bus := { Bus.flat with nonWritable := [⟨0x0000, 0x7FFF⟩] } }

/-- A legal RESET_STATE at the ends of its ranges. -/
def topReset : Config.ResetRecord :=
  { Config.resetRecord with f := 0xF0#8, pc := 0xFFFF#16, sp := 0xFFFF#16, lastClockT := 24 }

/-- A legal RESET_STATE over a listed memory, and a state with the invariant that has a next state. -/
theorem witness_InvariantHoldsAfterResetAndEveryStep :
    (topReset.Legal ∧ Memory.wf twoBytes.mem = true) ∧ twoBytes.Inv ∧ runsFrom twoBytes :=
  ⟨by decide, by decide, _, rfl⟩

theorem witness_RunNeverEnds : runsFrom twoBytes := ⟨_, rfl⟩

/-- The invariant with a move that is no reset, and with a reset to a legal record. -/
theorem witness_OutsideMovesKeepInvariant :
    twoBytes.Inv ∧ (∀ r, Outside.Move.flags 0xFF#8 = .reset r → r.Legal) ∧
      ∀ r, Outside.Move.reset topReset = .reset r → r.Legal :=
  ⟨by decide, fun _ h => Outside.Move.noConfusion h, fun r h => by cases h; decide⟩

theorem witness_DecodeOfEncodeIsTheInstruction :
    (Instr.ld_HL_d16 0xFFFF#16).wellFormed = true ∧ (Instr.set_7_A).wellFormed = true := by decide

/-- The opcodes beside 0xCB, each way of both equivalences. -/
theorem witness_EveryOpcodeByteHasOneRow :
    (0xCA#8 : Byte) ≠ Config.prefixByte ∧ (0xCC#8 : Byte) ≠ Config.prefixByte ∧
      (decode3 0xCA#8 0x00#8 0x00#8).ctorIdx = (decode3 0xCA#8 0xFF#8 0xFF#8).ctorIdx ∧
      (decode3 Config.prefixByte 0xFF#8 0x00#8).ctorIdx = (decode3 Config.prefixByte 0xFF#8 0xFF#8).ctorIdx := by decide

/-- A step of a base opcode, and one through the 0xCB entry. -/
theorem witness_StepRunsTheDecodedInstruction :
    State.reset.answer State.reset.pc ≠ 0xCB#8 ∧
      (Vec.start ⟨[0xCB#8, 0x37#8], [.PC 0xFFFF#16], [], 8⟩).answer 0xFFFF#16 = 0xCB#8 := by decide

/-- No branch, a branch taken, and a branch not taken. -/
theorem witness_StepConsumesItsInstruction :
    let s := Vec.start ⟨[0x20#8, 0xFB#8], [.PC 0x0109#16], [], 12⟩
    let u := Vec.start ⟨[0x20#8, 0xFB#8], [.PC 0x0109#16, .F 0x80#8], [], 8⟩
    (runsFrom State.reset ∧ State.reset.fetchInstr.form.branches = false) ∧
      (runsFrom s ∧ s.fetchInstr.form.notTaken s = false) ∧ runsFrom u ∧ u.fetchInstr.form.notTaken u = true :=
  ⟨⟨⟨_, rfl⟩, by decide⟩, ⟨⟨_, rfl⟩, by decide⟩, ⟨_, rfl⟩, by decide⟩

/-- The source's scenario S3 (spec/95_test_vectors.md 1.4). -/
theorem witness_FetchHelpersReadAtPC :
    let s := start [.PC 0xA050#16, .mem 0xA050#16 0x34#8, .mem 0xA051#16 0x12#8]
    s.pc = 0xA050#16 ∧ s.wordReadsAt s.pc = [.read 0xA050#16 0x34#8, .read 0xA051#16 0x12#8] := by decide

/-- The cheapest and the dearest instruction. -/
theorem witness_EveryInstructionReportsItsCost :
    (∃ t, exec .nop twoBytes = .next t) ∧ ∃ t, exec (.call_a16 0xFFFF#16) twoBytes = .next t := ⟨⟨_, rfl⟩, _, rfl⟩

theorem witness_InterruptEnableWrittenByThreeAndReadByNone :
    Instr.nop ∉ [Instr.ei, .di, .reti] ∧ Instr.reti ∈ [Instr.ei, .di, .reti] := by decide

/-- A step with four reads, one with two writes, and through 0xCB a rotate of a register, SET of `[HL]` and BIT of `[HL]`. -/
theorem witness_StepIssuesBoundedAccesses :
    let four := Vec.start ⟨[0xFA#8, 0x34#8, 0x12#8], [.PC 0x0100#16], [], 16⟩
    let two := Vec.start ⟨[0xCD#8, 0x10#8, 0x02#8], [.PC 0x0206#16, .SP 0xD000#16], [], 24⟩
    let ext (op : Byte) := Vec.start ⟨[0xCB#8, op], [.PC 0x015E#16, .HL 0xFF80#16], [], 16⟩
    (∃ t, step four = .next t ∧ readCount t.accesses = 4) ∧
      (∃ t, step two = .next t ∧ writeCount t.accesses = 2 ∧ readCount t.accesses = 3) ∧
      (∀ op ∈ [0x11#8, 0xCE#8, 0x46#8], (ext op).answer (ext op).pc = 0xCB#8 ∧ runsFrom (ext op)) ∧
      extForm ((ext 0x11#8).streamByte 1) = .rot .rl (.reg .C) ∧ extForm ((ext 0xCE#8).streamByte 1) = .set 1 .atHL ∧
      extForm ((ext 0x46#8).streamByte 1) = .bit 0 .atHL :=
  ⟨⟨_, rfl, by decide⟩, ⟨_, rfl, by decide⟩,
    fun op h => ⟨by revert op h; decide, by
      fin_cases h
      exacts [⟨_, rfl⟩, ⟨_, rfl⟩, ⟨_, rfl⟩]⟩, by decide, by decide, by decide⟩

/-- A bus that is plain memory below 0x8000 only, with two answers still to give, then none. -/
def scripted : State :=
  { start [.HL 0x8000#16, .mem 0x0000#16 0x7E#8, .mem 0x0001#16 0x7E#8] with
    bus := { Bus.flat with ram := [⟨0x0000, 0x7FFF⟩], answers := [0x5A#8, 0xA5#8] } }

/-- 20_memory.md R57: after `LD A,[HL]` a second read of the same address need not agree, and the bus has seen both. -/
theorem test_device_read_twice :
    (match step scripted with
      | .next t =>
        let r := t.readByte 0x8000#16
        decide (t.a = 0x5A#8) && decide (r.1 = 0xA5#8) &&
          decide (r.2.bus.history = [.read 0x8000#16 0xA5#8, .read 0x8000#16 0x5A#8])
      | .fault _ => false
      | .refused _ => false) = true := by decide

/-- Plain memory, an answer given, and no answer left. -/
theorem witness_BusAnswersAreAnyValue :
    scripted.bus.isRam 0x7FFF#16 = true ∧
      (scripted.bus.isRam 0x8000#16 = false ∧ scripted.bus.answers = 0x5A#8 :: [0xA5#8]) ∧
      let s := ((scripted.readByte 0x8000#16).2.readByte 0x8000#16).2
      s.bus.isRam 0x8000#16 = false ∧ s.bus.answers = [] := by decide

/-- `POP AF`, and an instruction that leaves C alone. -/
theorem witness_FlagsChangeOnlyWhereTheTableSays :
    (∃ t, exec .pop_AF twoBytes = .next t) ∧ (∃ t, exec .inc_B twoBytes = .next t) ∧
      (.C : Flag) ∉ (Instr.inc_B).form.handler.flagsWritten ∧ Instr.inc_B ≠ .pop_AF :=
  ⟨⟨_, rfl⟩, ⟨_, rfl⟩, by decide⟩

theorem witness_RegistersChangeOnlyWhereTheRuleSays :
    (∃ t, exec .inc_BC twoBytes = .next t) ∧ (Instr.inc_BC).form.writesSP = false ∧
      (.D : Reg8) ∉ (Instr.inc_BC).form.handler.regsWritten := ⟨⟨_, rfl⟩, by decide⟩

/-- A store where the bus ignores it, by an instruction and by a step, and an address outside the stored one. -/
theorem witness_MemoryChangesOnlyWhereStored :
    (∃ t, exec .ld_atHL_B romBelow = .next t) ∧ runsFrom romBelow ∧ romBelow.accepts 0x7FFF#16 = false ∧
      (0x8000#16 : Word) ∉ (Instr.ld_atHL_B).form.handler.storesAt romBelow := ⟨⟨_, rfl⟩, ⟨_, rfl⟩, by decide⟩

theorem witness_FlagTrapsOfTheInstructionSet :
    Instr.ccf ∈ [Instr.cpl, .scf, .ccf] ∧ Instr.rra ∈ [Instr.rlca, .rla, .rrca, .rra] := by decide

/-- Each of the four conditions holds of some state. -/
theorem witness_ConditionTestsTheFlags :
    (start []).cond .NZ = true ∧ (start [.F 0x80#8]).cond .Z = true ∧ (start [.F 0xE0#8]).cond .NC = true ∧
      (start [.F 0x10#8]).cond .C = true := by decide

theorem witness_StackHelpersPushAndPop :
    Memory.wf twoBytes.mem = true ∧ (start [.SP 0x0001#16]).sp = 0x0001#16 ∧
      Memory.wf (start [.SP 0x0001#16]).mem = true := by decide

theorem witness_FlagRegisterLayout :
    (0 ≠ Flag.bit .C ∧ 7 ≠ Flag.bit .N) ∧ topReset.Legal ∧ twoBytes.f &&& 0x0F#8 = 0#8 ∧ runsFrom twoBytes :=
  ⟨by decide, by decide, by decide, _, rfl⟩

/-- A bus that takes both bytes, across the end of the address space; one that takes neither; a third address. -/
theorem witness_WordWrittenIsReadBack :
    (Memory.wf twoBytes.mem = true ∧ twoBytes.accepts 0xFFFF#16 = true ∧ twoBytes.accepts (0xFFFF#16 + 1#16) = true) ∧
      (Memory.wf romBelow.mem = true ∧ romBelow.accepts 0x7FFE#16 = false ∧
        romBelow.accepts (0x7FFE#16 + 1#16) = false) ∧
      (0x0001#16 : Word) ≠ 0xFFFF#16 ∧ (0x0001#16 : Word) ≠ 0xFFFF#16 + 1#16 := by decide

theorem witness_LoadPairImmediate : Pair.HL ≠ .SP := by decide

/-- A store where the bus accepts it, and one where it does not. -/
theorem witness_StoreAtHL :
    (Memory.wf twoBytes.mem = true ∧ twoBytes.accepts twoBytes.hl = true) ∧
      Memory.wf romBelow.mem = true ∧ romBelow.accepts romBelow.hl = false := by decide

/-- The lowest and the highest address of the high page. -/
theorem witness_StoreAccumulator :
    Memory.wf twoBytes.mem = true ∧ twoBytes.accAddr (.highA8 0x00#8) = 0xFF00#16 ∧
      twoBytes.accAddr (.highA8 0xFF#8) = 0xFFFF#16 := by decide

/-- A word across the end of the address space. -/
theorem witness_StoreStackPointer :
    Memory.wf twoBytes.mem = true ∧ twoBytes.accepts 0xFFFF#16 = true ∧ twoBytes.accepts 0x0000#16 = true := by decide

theorem witness_IncrementAndDecrement8 :
    Memory.wf twoBytes.mem = true ∧ twoBytes.opnd .atHL = 0x34#8 ∧ Memory.wf romBelow.mem = true := by decide

/-- N clear with and without each adjustment, at its boundary, and N set. -/
theorem witness_DecimalAdjust :
    (start [.A 0x99#8]).flag .N = false ∧ (start [.A 0x9A#8]).flag .N = false ∧
      (start [.A 0x9F#8, .F 0x20#8]).flag .N = false ∧ (start [.A 0x00#8, .F 0x70#8]).flag .N = true := by decide

/-- The least and the greatest operands. -/
theorem witness_PackedDecimalSumsAndDifferences :
    (0 < 100 ∧ (start []).a = packedDecimal 0) ∧ 99 < 100 ∧ (start [.A 0x99#8, .F 0x10#8]).a = packedDecimal 99 := by
  decide

theorem witness_AccumulatorRotates :
    ((Instr.rra, RotOp.rr) : Instr × RotOp) ∈
      [(Instr.rlca, RotOp.rlc), (.rla, .rl), (.rrca, .rrc), (.rra, .rr)] := by decide

/-- The least and the greatest negative displacement. -/
theorem witness_StackPointerDisplacementSum : (0x80#8 : Byte).toInt < 0 ∧ (0xFF#8 : Byte).toInt < 0 := by decide

theorem witness_IncrementAndDecrement16 : Pair.BC ≠ .SP := by decide

/-- A pushed word across the end of the address space, and one on a bus that ignores both bytes. -/
theorem witness_PushPair :
    (Memory.wf twoBytes.mem = true ∧ (start [.SP 0x0001#16]).pushAddrs = [0xFFFF#16, 0x0000#16]) ∧
      Memory.wf romBelow.mem = true ∧ romBelow.accepts (romBelow.sp - 2#16) = false := by decide

theorem witness_PopPair : StackPair.BC ≠ .AF ∧ StackPair.AF = .AF := by decide

/-- The invariant, a bus that takes both bytes across the end of the address space, and the push's next state. -/
theorem witness_PushThenPopRestores :
    let s := start [.SP 0x0001#16, .A 0x12#8, .F 0xB0#8]
    s.Inv ∧ s.accepts (s.sp - 2#16) = true ∧ s.accepts (s.sp - 2#16 + 1#16) = true ∧
      ∃ t, exec (Instr.pushOf .AF) s = .next t :=
  ⟨by decide, by decide, by decide, _, rfl⟩

/-- A condition that holds and one that does not, on one state. -/
theorem witness_Jumps : twoBytes.cond .NZ = true ∧ ¬ twoBytes.cond .Z = true := by decide

theorem witness_Calls :
    Memory.wf twoBytes.mem = true ∧ twoBytes.cond .NC = true ∧ ¬ twoBytes.cond .C = true := by decide

theorem witness_Returns : (start [.F 0x80#8]).cond .Z = true ∧ ¬ (start [.F 0x80#8]).cond .NZ = true := by decide

theorem witness_Restarts : Memory.wf twoBytes.mem = true ∧ (7 : Nat) < 8 := by decide

theorem witness_SystemAndUnusedOpcodes : Instr.stop ∈ [Instr.nop, .halt, .stop] := by decide

theorem witness_ExtendedRotatesAndShifts :
    Memory.wf twoBytes.mem = true ∧ twoBytes.opnd .atHL = 0x34#8 ∧ Memory.wf romBelow.mem = true := by decide

theorem witness_BitResetAndSet :
    Memory.wf twoBytes.mem = true ∧ twoBytes.opnd .atHL = 0x34#8 ∧ Memory.wf romBelow.mem = true := by decide


end Sys2Proof.Tests
end

/-! PROOFS of the family 10_state.md. First what every instruction does, by its form (the bytes and the flags it writes,
the cost it reports, that it reads no counter); then the invariant and the settled statements. -/
namespace Sys2Proof.Machine

/-! The operations that read or write an operand, field by field. -/

@[simp] theorem State.readByte_fst (s : State) (a : Word) : (s.readByte a).1 = s.answer a := rfl
@[simp] theorem State.readByte_snd (s : State) (a : Word) : (s.readByte a).2 = s.issued (.read a (s.answer a)) := rfl

@[simp] theorem State.readOpnd_snd_f (s : State) (o : Opnd8) : (s.readOpnd o).2.f = s.f := by cases o <;> rfl
@[simp] theorem State.readOpnd_snd_mem (s : State) (o : Opnd8) : (s.readOpnd o).2.mem = s.mem := by cases o <;> rfl
@[simp] theorem State.writeOpnd_f (s : State) (o : Opnd8) (v : Byte) : (s.writeOpnd o v).f = s.f := by
  cases o <;> simp [State.writeOpnd]

@[simp] theorem State.accFetch_f (s : State) (m : AccMode) : (s.accFetch m).f = s.f := by rw [State.accFetch_eq]
@[simp] theorem State.accFetch_mem (s : State) (m : AccMode) : (s.accFetch m).mem = s.mem := by rw [State.accFetch_eq]
@[simp] theorem State.accFetch_bus_map (s : State) (m : AccMode) : (s.accFetch m).bus.map = s.bus.map := by
  rw [State.accFetch_eq, Bus.afterAll_map]
@[simp] theorem State.accPost_f (s : State) (m : AccMode) : (s.accPost m).f = s.f := by
  rw [State.accPost_eq, State.setHL_f]
@[simp] theorem State.accPost_mem (s : State) (m : AccMode) : (s.accPost m).mem = s.mem := by
  rw [State.accPost_eq, State.setHL_mem]

@[simp] theorem State.branchRel_f (s : State) (r8 : Byte) : (s.branchRel r8).f = s.f := by rw [State.branchRel_eq]
@[simp] theorem State.branchRel_mem (s : State) (r8 : Byte) : (s.branchRel r8).mem = s.mem := by rw [State.branchRel_eq]
@[simp] theorem State.callFrom_f (s : State) (a16 : Word) : (s.callFrom a16).f = s.f := by rw [State.callFrom_eq]
@[simp] theorem State.popPC_f (s : State) : s.popPC.f = s.f := by rw [State.popPC_eq]
@[simp] theorem State.popPC_mem (s : State) : s.popPC.mem = s.mem := by rw [State.popPC_eq]
@[simp] theorem State.pop16_snd_f (s : State) : s.pop16.2.f = s.f := by rw [State.pop16_state]
@[simp] theorem State.pop16_snd_mem (s : State) : s.pop16.2.mem = s.mem := by rw [State.pop16_state]
@[simp] theorem State.setR16s_mem (s : State) (rr : StackPair) (w : Word) : (s.setR16s rr w).mem = s.mem := by
  cases rr <;> rfl
theorem State.setR16s_f (s : State) (rr : StackPair) (w : Word) (h : rr ≠ .AF) : (s.setR16s rr w).f = s.f := by
  cases rr with
  | BC | DE | HL => rfl
  | AF => exact absurd rfl h

/-- The next state of a handler that branches on a condition. -/
theorem next_of_ite {c : Prop} {_ : Decidable c} {u v t : State}
    (h : (if c then .next u else .next v : Result) = .next t) : c ∧ t = u ∨ ¬c ∧ t = v := by
  split at h
  · next hc => cases h; exact .inl ⟨hc, rfl⟩
  · next hc => cases h; exact .inr ⟨hc, rfl⟩

/-! Instructions and forms. -/

/-- An instruction is its form's instruction. -/
theorem instr_form (i : Instr) : i.form.instr = i := by cases i <;> rfl

theorem form_eq_pop_AF_iff (i : Instr) : i.form = .pop .AF ↔ i = .pop_AF :=
  ⟨fun h => by rw [← instr_form i, h]; rfl, fun h => by rw [h]; rfl⟩

/-- Every form but the 0xCB entry is its own handler. -/
theorem Form.handler_of_ne_prefixCB {f : Form} (hf : ∀ o, f ≠ .prefixCB o) : f.handler = f := by
  unfold Form.handler
  split
  · exact absurd rfl (hf _)
  · rfl

/-! Memory: the bytes an instruction writes, as one write after the other (20_memory.md R58). -/

/-- Some bytes written one after the other. -/
def State.writeAll (s : State) (ws : List (Word × Byte)) : State := ws.foldl (fun u p => u.writeByte p.1 p.2) s

theorem State.writeAll_wf (s : State) (ws : List (Word × Byte)) (h : Memory.wf s.mem = true) :
    Memory.wf (s.writeAll ws).mem = true := by
  induction ws generalizing s with
  | nil => exact h
  | cons p ws ih => exact ih _ (s.writeByte_wf p.1 p.2 h)

/-- What is written depends on memory and on which writes the bus accepts. -/
theorem State.writeAll_mem_congr {s u : State} (ws : List (Word × Byte)) (hm : u.mem = s.mem)
    (hb : u.bus.map = s.bus.map) : (u.writeAll ws).mem = (s.writeAll ws).mem := by
  induction ws generalizing s u with
  | nil => exact hm
  | cons p ws ih =>
    have ha : u.accepts p.1 = s.accepts p.1 := Bus.accepts_congr hb p.1
    exact ih (by simp [hm, ha]) (by simp [hb])

/-- From `s` to `t` memory changes by one write at each of the addresses, in their order, and by nothing else. -/
def WritesAt (as : List Word) (s t : State) : Prop :=
  ∃ ws : List (Word × Byte), ws.map Prod.fst = as ∧ t.mem = (s.writeAll ws).mem

theorem WritesAt.wf {as : List Word} {s t : State} (k : WritesAt as s t) (h : Memory.wf s.mem = true) :
    Memory.wf t.mem = true := by
  obtain ⟨ws, _, ht⟩ := k
  rw [ht]
  exact s.writeAll_wf ws h

/-- Seen from a state with the same memory and the same map of the bus. -/
theorem WritesAt.congr {as : List Word} {s u t : State} (k : WritesAt as u t) (hm : u.mem = s.mem)
    (hb : u.bus.map = s.bus.map) : WritesAt as s t := by
  obtain ⟨ws, ha, ht⟩ := k
  exact ⟨ws, ha, ht.trans (State.writeAll_mem_congr ws hm hb)⟩

theorem WritesAt.none {s t : State} (h : t.mem = s.mem) : WritesAt [] s t := ⟨[], rfl, h⟩

theorem WritesAt.byte {u t : State} {a : Word} {v : Byte} (h : t.mem = (u.writeByte a v).mem) : WritesAt [a] u t :=
  ⟨[(a, v)], rfl, h⟩

theorem WritesAt.word {u t : State} {a w : Word} (h : t.mem = (u.writeWord a w).mem) : WritesAt [a, a + 1#16] u t :=
  ⟨[(a, lo8 w), (a + 1#16, hi8 w)], rfl, h⟩

/-- A push writes the word below the stack pointer. -/
theorem WritesAt.push {u t : State} {w : Word} (h : t.mem = (u.push16 w).mem) : WritesAt u.pushAddrs u t :=
  (WritesAt.word (u := u.setSP (u.sp - 2#16)) h).congr rfl rfl

theorem WritesAt.call {s t : State} {a16 : Word} (h : t.mem = (s.callFrom a16).mem) : WritesAt s.pushAddrs s t :=
  (WritesAt.push (u := s.operand16 a16) h).congr rfl (by simp)

/-- A read of an `r` operand and a write of it write its address, if it has one. -/
theorem WritesAt.opnd {s t : State} {o : Opnd8} {v : Byte} (h : t.mem = ((s.readOpnd o).2.writeOpnd o v).mem) :
    WritesAt (o.storesAt s) s t := by
  cases o with
  | reg r => exact .none (h.trans (s.setR8_mem r v))
  | atHL => exact (WritesAt.byte (u := s.issued (.read s.hl (s.answer s.hl))) h).congr rfl (Bus.after_map _ _)

/-- Every form writes memory at the addresses it stores to, once each, and nowhere else. -/
theorem execForm_writesAt {f : Form} {s t : State} (hf : ∀ o, f ≠ .prefixCB o) (h : execForm f s = .next t) :
    WritesAt (f.storesAt s) s t := by
  cases f with
  | prefixCB o => exact absurd rfl (hf o)
  | ldMI d8 => cases h; exact (WritesAt.byte (u := s.operand8 d8) (v := d8) (by simp)).congr (by simp) (by simp)
  | ldMR r => cases h; exact .byte (v := s.r8 r) (by simp)
  | stAcc m => cases h; exact (WritesAt.byte (u := s.accFetch m) (v := s.a) (by simp)).congr (by simp) (by simp)
  | stSP a16 => cases h; exact (WritesAt.word (u := s.operand16 a16) (w := s.sp) rfl).congr (by simp) (by simp)
  | inc8 o | dec8 o =>
    cases o with
    | reg r => cases h; exact .none (by simp)
    | atHL => cases h; exact .opnd (o := .atHL) (by rw [State.clk_mem, State.setZNH_mem]; rfl)
  | rot op o => cases h; exact .opnd (by rw [State.clk_mem, State.setFlags_mem])
  | res n o | set n o => cases h; exact .opnd (by rw [State.clk_mem])
  | push rr => cases h; exact .push (State.clk_mem _ _)
  | rst n => cases h; exact .push (by rw [State.clk_mem, State.setPC_mem])
  | call a16 => cases h; exact .call (State.clk_mem _ _)
  | callC cc a16 =>
    obtain ⟨hc, rfl⟩ | ⟨hc, rfl⟩ := next_of_ite h
    · rw [Form.storesAt, if_pos hc]; exact .call (State.clk_mem _ _)
    · rw [Form.storesAt, if_neg hc]; exact .none (by simp)
  | jpC cc _ | jrC cc _ | retC cc =>
    obtain ⟨_, rfl⟩ | ⟨_, rfl⟩ := next_of_ite h
    · exact .none (by simp)
    · exact .none (by simp)
  | alu op o => cases o <;> cases h <;> exact .none (by simp)
  | _ => cases h; exact .none (by simp)

/-- Behind the 0xCB entry the extended form stores to the same addresses. -/
theorem extForm_storesAt_operand8 (op2 : Byte) (s : State) :
    (extForm op2).storesAt (s.operand8 op2) = (extForm op2).storesAt s := by
  obtain ⟨_, o, h⟩ | ⟨_, _, h⟩ | ⟨_, o, h⟩ | ⟨_, o, h⟩ := extForm_cases op2
  · rw [h]; cases o <;> rfl
  · rw [h]; rfl
  · rw [h]; cases o <;> rfl
  · rw [h]; cases o <;> rfl

/-- Every instruction writes memory at the addresses its form stores to, once each, and nowhere else. -/
theorem exec_writesAt {i : Instr} {s t : State} (h : exec i s = .next t) :
    WritesAt (i.form.handler.storesAt s) s t := by
  refine exec_next_induction (fun f s t => WritesAt (f.handler.storesAt s) s t) ?_ ?_ i s t h
  · intro f s t hf h
    rw [Form.handler_of_ne_prefixCB hf]
    exact execForm_writesAt hf h
  · intro o s t k
    rw [Form.handler_extForm, extForm_storesAt_operand8] at k
    exact k.congr (State.operand8_mem _ _) (by simp)

/-! Flags: an instruction writes only the flags of its row of 10_state.md R25. -/

/-- Writing a flag writes its bit of `F` and no other. -/
theorem putFlag_getLsbD (fl : Flag) (v : Bool) (f : Byte) (k : Nat) :
    (putFlag fl v f).getLsbD k = if k = fl.bit then v else f.getLsbD k := by
  have hlt : fl.bit < 8 := by cases fl <;> decide
  by_cases hk : k = fl.bit
  · cases v <;> simp [putFlag, hk, hlt]
  · have hsub : fl.bit ≤ k → ¬k - fl.bit = 0 := by omega
    have hmask : (1#8 <<< fl.bit).getLsbD k = false := by simpa using fun _ => hsub
    cases v with
    | true => simp [putFlag, hmask, hk]
    | false => simpa [putFlag, hmask, hk] using BitVec.lt_of_getLsbD

/-- One more write of a flag that may change. -/
theorem KeepsFlags.setFlag {flags : List Flag} {s u : State} (k : KeepsFlags flags s u) {fl : Flag} (h : fl ∈ flags)
    (v : Bool) : KeepsFlags flags s (u.setFlag fl v) := by
  obtain ⟨kf, kl⟩ := k
  refine ⟨fun g hg => ?_, by rw [State.setFlag_f, putFlag_low, kl]⟩
  have hne : g ≠ fl := fun e => hg (e ▸ h)
  rw [State.setFlag_flag_other _ _ _ _ hne, kf g hg]

theorem KeepsFlags.congr {flags : List Flag} {s u t : State} (h : t.f = u.f) (k : KeepsFlags flags s u) :
    KeepsFlags flags s t := by
  simpa only [KeepsFlags, State.flag, h] using k

theorem KeepsFlags.setZNH {s u : State} (z n h : Bool) (hf : u.f = s.f) :
    KeepsFlags [.Z, .N, .H] s (u.setZNH z n h) :=
  (((KeepsFlags.of_eq _ hf).setFlag (by decide) z).setFlag (by decide) n).setFlag (by decide) h

theorem KeepsFlags.setNHC {s u : State} (n h c : Bool) (hf : u.f = s.f) :
    KeepsFlags [.N, .H, .C] s (u.setNHC n h c) :=
  (((KeepsFlags.of_eq _ hf).setFlag (by decide) n).setFlag (by decide) h).setFlag (by decide) c

theorem KeepsFlags.setFlags {s u : State} (z n h c : Bool) (hf : u.f = s.f) :
    KeepsFlags [.Z, .N, .H, .C] s (u.setFlags z n h c) :=
  ((((KeepsFlags.of_eq _ hf).setFlag (by decide) z).setFlag (by decide) n).setFlag (by decide) h).setFlag (by decide) c

theorem KeepsFlags.aluAcc {s u : State} (op : AluOp) (v : Byte) (hf : u.f = s.f) :
    KeepsFlags [.Z, .N, .H, .C] s (u.aluAcc op v) := by
  rw [State.aluAcc_eq]
  exact .congr rfl (.setFlags _ _ _ _ hf)

/-- A form outside the rows of 10_state.md R25 leaves `F` as it was. -/
theorem execForm_f {f : Form} {s t : State} (hf : ∀ o, f ≠ .prefixCB o) (hw : f.flagsWritten = [])
    (h : execForm f s = .next t) : t.f = s.f := by
  cases f with
  | prefixCB o => exact absurd rfl (hf o)
  | inc8 _ | dec8 _ | bit _ _ | alu _ _ | aluI _ _ | rlca | rla | rrca | rra | rot _ _ | ldHLSPr8 _ | addSPr8 _ | daa
  | cpl | scf | ccf | addHL _ => cases hw
  | pop rr =>
    have hr : rr ≠ .AF := by rintro rfl; cases hw
    cases h
    exact State.setR16s_f _ _ _ hr
  | jpC cc _ | jrC cc _ | callC cc _ | retC cc =>
    obtain ⟨_, rfl⟩ | ⟨_, rfl⟩ := next_of_ite h
    · simp
    · simp
  | _ => cases h; simp

/-- Every form but `POP AF` leaves the flags it does not write and the low nibble of `F`. -/
theorem execForm_keepsFlags {f : Form} {s t : State} (hf : ∀ o, f ≠ .prefixCB o) (hp : f ≠ .pop .AF)
    (h : execForm f s = .next t) : KeepsFlags f.flagsWritten s t := by
  by_cases hw : f.flagsWritten = []
  · exact .of_eq _ (execForm_f hf hw h)
  · cases f with
    | inc8 o | dec8 o => cases o <;> cases h <;> exact .congr (State.clk_f _ _) (.setZNH _ _ _ (by simp))
    | bit n o => cases h; exact .congr (State.clk_f _ _) (.setZNH _ _ _ (by simp))
    | alu op o => cases o <;> cases h <;> exact .congr (State.clk_f _ _) (.aluAcc _ _ (by simp))
    | aluI op d8 => cases h; exact .congr (State.clk_f _ _) (.aluAcc _ _ (by simp))
    | rlca | rla | rrca | rra | rot _ _ | ldHLSPr8 _ | addSPr8 _ =>
      cases h; exact .congr (State.clk_f _ _) (.setFlags _ _ _ _ (by simp))
    | scf | ccf | addHL _ => cases h; exact .congr (State.clk_f _ _) (.setNHC _ _ _ (by simp))
    | daa =>
      cases h
      have k : KeepsFlags [.Z, .H, .C] s (s.setA (daa8 s.a (s.flag .N) (s.flag .H) (s.flag .C)).1) := .of_eq _ rfl
      exact .congr (State.clk_f _ _) (((k.setFlag (by decide) _).setFlag (by decide) _).setFlag (by decide) _)
    | cpl =>
      cases h
      have k : KeepsFlags [.N, .H] s (s.setA (~~~s.a)) := .of_eq _ rfl
      exact .congr (State.clk_f _ _) ((k.setFlag (by decide) _).setFlag (by decide) _)
    | pop rr =>
      cases rr with
      | AF => exact absurd rfl hp
      | BC | DE | HL => exact absurd rfl hw
    | _ => exact absurd rfl hw

/-- Every instruction but `POP AF` leaves the flags its form does not write and the low nibble of `F`. -/
theorem exec_keepsFlags {i : Instr} {s t : State} (hp : i ≠ .pop_AF) (h : exec i s = .next t) :
    KeepsFlags i.form.handler.flagsWritten s t := by
  refine exec_next_induction (fun f s t => f ≠ .pop .AF → KeepsFlags f.handler.flagsWritten s t) ?_ ?_ i s t h
    (mt (form_eq_pop_AF_iff i).mp hp)
  · intro f s t hf h hp
    rw [Form.handler_of_ne_prefixCB hf]
    exact execForm_keepsFlags hf hp h
  · intro o s t k _
    have hx : extForm o ≠ .pop .AF := by
      obtain ⟨_, _, e⟩ | ⟨_, _, e⟩ | ⟨_, _, e⟩ | ⟨_, _, e⟩ := extForm_cases o <;> rw [e] <;> exact Form.noConfusion
    have k' := k hx
    rw [Form.handler_extForm] at k'
    exact k'

/-- A byte masked as 10_state.md R22 masks `F` has a zero low nibble. -/
theorem and_highMask_and_lowMask (b : Byte) : b &&& 0xF0#8 &&& 0x0F#8 = 0#8 := by
  rw [BitVec.and_assoc, show (0xF0#8 &&& 0x0F#8 : Byte) = 0#8 from rfl, BitVec.and_zero]

/-- `POP AF` clears the low nibble of `F`. -/
theorem exec_pop_AF_low {s t : State} (h : exec .pop_AF s = .next t) : t.f &&& 0x0F#8 = 0#8 := by
  cases h
  exact and_highMask_and_lowMask _

/-- Every instruction keeps a zero low nibble of `F`. -/
theorem exec_low_zero {i : Instr} {s t : State} (h : exec i s = .next t) (hl : s.f &&& 0x0F#8 = 0#8) :
    t.f &&& 0x0F#8 = 0#8 := by
  by_cases hp : i = .pop_AF
  · subst hp
    exact exec_pop_AF_low h
  · obtain ⟨_, kl⟩ := exec_keepsFlags hp h
    rw [kl, hl]

/-! Counters: an instruction overwrites them with its cost and reads neither. -/

theorem execForm_reports {f : Form} {s t : State} (hf : ∀ o, f ≠ .prefixCB o) (h : execForm f s = .next t) :
    Reports t (f.cost s) := by
  cases f with
  | prefixCB o => exact absurd rfl (hf o)
  | stAcc m | ldAcc m => cases m <;> cases h <;> exact ⟨rfl, rfl⟩
  | inc8 o | dec8 o => cases o <;> cases h <;> exact ⟨rfl, rfl⟩
  | alu _ o | rot _ o | bit _ o | res _ o | set _ o => cases o <;> cases h <;> exact ⟨rfl, rfl⟩
  | jpC cc _ | jrC cc _ | callC cc _ | retC cc =>
    obtain ⟨hc, rfl⟩ | ⟨hc, rfl⟩ := next_of_ite h
    · rw [Form.cost, if_pos hc]; exact ⟨rfl, rfl⟩
    · rw [Form.cost, if_neg hc]; exact ⟨rfl, rfl⟩
  | _ => cases h; exact ⟨rfl, rfl⟩

/-- The extended forms cost the same from every state. -/
theorem extForm_cost (op2 : Byte) (s u : State) : (extForm op2).cost u = (extForm op2).cost s := by
  obtain ⟨_, o, h⟩ | ⟨_, o, h⟩ | ⟨_, o, h⟩ | ⟨_, o, h⟩ := extForm_cases op2 <;> rw [h] <;> cases o <;> rfl

/-- Every instruction reports the cost of its form (40_step_dispatch.md R114). -/
theorem exec_reports {i : Instr} {s t : State} (h : exec i s = .next t) : Reports t (i.form.handler.cost s) := by
  refine exec_next_induction (fun f s t => Reports t (f.handler.cost s)) ?_ ?_ i s t h
  · intro f s t hf h
    rw [Form.handler_of_ne_prefixCB hf]
    exact execForm_reports hf h
  · intro o s t k
    rw [Form.handler_extForm, extForm_cost o s] at k
    exact k

/-- The costs of the table of 70_reset_and_hazards.md R359. -/
theorem Form.cost_mem (f : Form) (s : State) : f.cost s ∈ [4, 8, 12, 16, 20, 24] := by
  cases f with
  | jpC cc _ | jrC cc _ | callC cc _ | retC cc => simp only [Form.cost]; split <;> decide
  | stAcc m | ldAcc m => cases m <;> simp [Form.cost]
  | inc8 o | dec8 o | alu _ o | rot _ o | bit _ o | res _ o | set _ o => cases o <;> simp [Form.cost]
  | _ => simp [Form.cost]

theorem exec_lastClockT_mod_four {i : Instr} {s t : State} (h : exec i s = .next t) : t.lastClockT % 4 = 0 := by
  obtain ⟨hT, _⟩ := exec_reports h
  have hall : ∀ c ∈ [4, 8, 12, 16, 20, 24], c % 4 = 0 := by decide
  rw [hT]
  exact hall _ (Form.cost_mem _ s)

/-- The state with other values of the counters. -/
def State.withCounters (s : State) (t m : Nat) : State := { s with lastClockT := t, lastClockM := m }

/-- No handler reads the counters: each overwrites both. -/
theorem execForm_withCounters {f : Form} (hf : ∀ o, f ≠ .prefixCB o) (s : State) (t m : Nat) :
    execForm f (s.withCounters t m) = execForm f s := by
  cases f with
  | prefixCB o => exact absurd rfl (hf o)
  | ldRR d _ | ldRI d _ | ldRM d => cases d <;> rfl
  | ldPI rr _ | inc16 rr | dec16 rr | addHL rr => cases rr <;> rfl
  | push rr | pop rr => cases rr <;> rfl
  | stAcc m | ldAcc m => cases m <;> rfl
  | alu op o => cases o <;> cases op <;> rfl
  | aluI op _ => cases op <;> rfl
  | inc8 o | dec8 o | rot _ o | bit _ o | res _ o | set _ o =>
    cases o with
    | reg r => cases r <;> rfl
    | atHL => rfl
  | _ => rfl

theorem exec_withCounters (i : Instr) (s : State) (t m : Nat) : exec i (s.withCounters t m) = exec i s := by
  rw [exec_eq_execForm, exec_eq_execForm]
  by_cases hx : ∃ o, i.form = .prefixCB o
  · obtain ⟨o, ho⟩ := hx
    rw [ho]
    show extTable o ((s.operand8 o).withCounters t m) = extTable o (s.operand8 o)
    rw [extTable_eq, extTable_eq, execForm_withCounters (extForm_ne_prefixCB o)]
  · exact execForm_withCounters (fun o ho => hx ⟨o, ho⟩) s t m

/-- The state with other values of the counters, of the record of accesses and of the strobe. -/
def State.withRecords (s : State) (t m : Nat) (xs : List Access) (w : Bool) : State :=
  { s with lastClockT := t, lastClockM := m, accesses := xs, unusedWarn := w }

/-- Handler entry begins the record and the strobe anew; the counters are what they were. -/
theorem State.handlerEntry_withRecords (s : State) (t m : Nat) (xs : List Access) (w : Bool) :
    (s.withRecords t m xs w).handlerEntry = s.handlerEntry.withCounters t m := by
  by_cases h : s.answer s.pc = Config.prefixByte
  · rw [State.handlerEntry_prefix_eq s h, State.handlerEntry_prefix_eq (s.withRecords t m xs w) h]; rfl
  · rw [State.handlerEntry_base_eq s h, State.handlerEntry_base_eq (s.withRecords t m xs w) h]; rfl

/-- A step reads neither the counters nor the record of accesses nor the strobe. -/
theorem step_withRecords (s : State) (t m : Nat) (xs : List Access) (w : Bool) :
    step (s.withRecords t m xs w) = step s := by
  have hfetch : (s.withRecords t m xs w).fetchInstr = s.fetchInstr := rfl
  rw [step, step, hfetch, State.handlerEntry_withRecords, exec_withCounters]

/-! The invariant of 10_state.md R31. -/

theorem State.widthsHold (s : State) : s.WidthsHold :=
  ⟨fun r => Nat.le_of_lt_succ (s.r8 r).isLt, Nat.le_of_lt_succ s.f.isLt, Nat.le_of_lt_succ s.pc.isLt,
    Nat.le_of_lt_succ s.sp.isLt⟩

theorem State.ofReset_inv {r : Config.ResetRecord} {mem : Memory} (bus : Bus) (hr : r.Legal)
    (hm : Memory.wf mem = true) : (State.ofReset r mem bus).Inv :=
  ⟨hr.1, rfl, hr.2, hm⟩

/-- From canonical memory and a zero low nibble of `F` every instruction reaches the invariant, whatever the counters. -/
theorem exec_inv {i : Instr} {s t : State} (h : exec i s = .next t) (hl : s.f &&& 0x0F#8 = 0#8)
    (hm : Memory.wf s.mem = true) : t.Inv := by
  obtain ⟨hT, hM⟩ := exec_reports h
  exact ⟨exec_low_zero h hl, by rw [hM, hT], exec_lastClockT_mod_four h, (exec_writesAt h).wf hm⟩

theorem State.handlerEntry_f (s : State) : s.handlerEntry.f = s.f := by
  obtain ⟨_, hf, _⟩ := s.handlerEntry_rest
  exact hf

theorem State.handlerEntry_mem (s : State) : s.handlerEntry.mem = s.mem := by
  obtain ⟨_, _, _, _, hm, _⟩ := s.handlerEntry_rest
  exact hm

theorem step_inv {s t : State} (hi : s.Inv) (h : step s = .next t) : t.Inv := by
  obtain ⟨hl, _, _, hm⟩ := hi
  exact exec_inv h (by rw [State.handlerEntry_f, hl]) (by rw [State.handlerEntry_mem, hm])

/-- Settles O3: each instruction keeps the low nibble and canonical memory and overwrites the counters. -/
theorem invariantHoldsAfterResetAndEveryStep : Obligations.InvariantHoldsAfterResetAndEveryStep :=
  ⟨fun _ s hr hm => ⟨State.ofReset_inv s.bus hr hm, State.widthsHold _⟩,
    fun _ t hi h => ⟨step_inv hi h, t.widthsHold⟩⟩

/-- Settles O6, move by move. -/
theorem outsideMovesKeepInvariant : Obligations.OutsideMovesKeepInvariant := by
  intro m s hi hr
  obtain ⟨hl, hM, hT, hm⟩ := hi
  cases m with
  | reg r v => simpa [State.Inv, Outside.apply] using ⟨hl, hM, hT, hm⟩
  | pair rr w => simpa [State.Inv, Outside.apply] using ⟨hl, hM, hT, hm⟩
  | flags v => exact ⟨and_highMask_and_lowMask v, hM, hT, hm⟩
  | flag fl v => exact ⟨(putFlag_low fl v s.f).trans hl, hM, hT, hm⟩
  | programCounter w => exact ⟨hl, hM, hT, hm⟩
  | interruptEnable b => exact ⟨hl, hM, hT, hm⟩
  | clock n => exact ⟨hl, rfl, Nat.mul_mod_right 4 n, hm⟩
  | memory a v => exact ⟨hl, hM, hT, s.place_wf a v hm⟩
  | bus b => exact ⟨hl, hM, hT, hm⟩
  | reset r => exact State.ofReset_inv s.bus (hr r rfl) hm

/-- Settles O17: handlers overwrite the counters, and a step begins the record and the strobe anew. -/
theorem countersAndRecordsAreNeverRead : Obligations.CountersAndRecordsAreNeverRead :=
  ⟨exec_withCounters, step_withRecords⟩

/-- Settles O21: `POP AF` writes every flag and clears the low nibble; for the others, by their form. -/
theorem flagsChangeOnlyWhereTheTableSays : Obligations.FlagsChangeOnlyWhereTheTableSays := by
  intro i s t h
  by_cases hp : i = .pop_AF
  · subst hp
    have hall : ∀ fl : Flag, fl ∈ Instr.pop_AF.form.handler.flagsWritten := by rintro (_ | _ | _ | _) <;> decide
    exact ⟨fun fl hfl => absurd (hall fl) hfl, fun hne => absurd rfl hne, fun _ => exec_pop_AF_low h⟩
  · obtain ⟨kf, kl⟩ := exec_keepsFlags hp h
    exact ⟨kf, fun _ => kl, fun e => absurd e hp⟩

/-- Settles O28: a flag write is one bit of `F`, and every instruction keeps a zero low nibble. -/
theorem flagRegisterLayout : Obligations.FlagRegisterLayout := by
  refine ⟨fun s => ⟨rfl, rfl, rfl, rfl⟩, fun s fl v => ⟨s.setFlag_flag_same fl v, fun k hk => ?_, rfl⟩,
    fun r s hr => hr.1, fun s t hl h => ?_⟩
  · rw [State.setFlag_f, putFlag_getLsbD, if_neg hk]
  · exact exec_low_zero h (by rw [State.handlerEntry_f, hl])

/-- Settles O1: the model's record is legal. -/
theorem resetStateIsLegal : Obligations.ResetStateIsLegal := State.ofReset_inv Bus.flat (by decide) rfl

/-- Settles O27: a pair view is a concatenation of two bytes. -/
theorem pairViewsAreTheirBytes : Obligations.PairViewsAreTheirBytes := by
  intro s w
  have hviews : s.bc.toNat = s.b.toNat * 256 + s.c.toNat ∧ s.de.toNat = s.d.toNat * 256 + s.e.toNat ∧
      s.hl.toNat = s.h.toNat * 256 + s.l.toNat ∧ s.af.toNat = s.a.toNat * 256 + s.f.toNat :=
    ⟨mkWord_toNat _ _, mkWord_toNat _ _, mkWord_toNat _ _, mkWord_toNat _ _⟩
  exact ⟨hviews, rfl, rfl, rfl, rfl, lo8_toNat w, hi8_toNat w⟩

end Sys2Proof.Machine

/-! PROOFS of the family 20_memory.md: words, what the bus answers, and what it accepts; then the accesses of a step. -/
namespace Sys2Proof.Machine

/-! Words (20_memory.md R53). -/

/-- Settles O29: a written word seen through reads, and a word of plain memory is its two bytes. -/
theorem wordWrittenIsReadBack : Obligations.WordWrittenIsReadBack := by
  intro s a w hwf
  refine ⟨fun ha ha1 => ?_, fun ha ha1 => ?_, fun b hb hb1 => s.writeWord_peek_other a b w hb hb1, s.writeWord_wf a w hwf⟩
  · have hlo : (s.writeWord a w).peek a = lo8 w := by
      rw [s.writeWord_peek a a w hwf, if_neg (fun h => succ_ne a h.1.symm), if_pos ⟨rfl, ha⟩]
    have hhi : (s.writeWord a w).peek (a + 1#16) = hi8 w := by
      rw [s.writeWord_peek a (a + 1#16) w hwf, if_pos ⟨rfl, ha1⟩]
    have hram : ∀ b, s.accepts b = true → (s.writeWord a w).bus.isRam b = true := fun b hb =>
      (Bus.isRam_congr (s.writeWord_bus_map a w) b).trans (Bus.isRam_of_accepts hb)
    refine ⟨?_, hlo, hhi⟩
    rw [State.readWord_ram _ _ (hram _ ha) (hram _ ha1), hlo, hhi, mkWord_hi8_lo8]
  · have ha1' : (s.writeByte a (lo8 w)).accepts (a + 1#16) = false := by rw [State.writeByte_accepts, ha1]
    rw [State.writeWord, State.writeByte_ignored _ _ _ ha1', State.writeByte_ignored _ _ _ ha]

/-! What the bus answers to a read (20_memory.md R57). -/

/-- An access outside plain memory is seen by the bus, and a read there uses up an answer. -/
theorem Bus.after_of_not_isRam (b : Bus) (x : Access) (h : b.isRam x.addr = false) :
    b.after x = { b with answers := if x.isWrite then b.answers else b.answers.tail, history := x :: b.history } := by
  simp [Bus.after, h]

/-- A bus without plain memory that has two answers to give. -/
def Bus.answering (v w : Byte) : Bus := { ram := [], nonWritable := [], answers := [v, w], history := [] }

theorem Bus.answering_answer (v w : Byte) (mem : Memory) (a : Word) : (Bus.answering v w).answer mem a = v := rfl

theorem Bus.answering_after_answer (v w u : Byte) (mem : Memory) (a b : Word) :
    ((Bus.answering v w).after (.read a u)).answer mem b = w := rfl

/-- Settles O20: the three cases of `Bus.answer`, and a bus that is given the two answers. -/
theorem busAnswersAreAnyValue : Obligations.BusAnswersAreAnyValue := by
  refine ⟨fun s a => ⟨fun h => ⟨s.answer_ram a h, s.issued_bus_ram _ h⟩, fun h => ?_⟩, fun s v w => ⟨fun a => ?_, ?_⟩⟩
  · have hbus : (s.readByte a).2.bus = _ := Bus.after_of_not_isRam s.bus (.read a (s.answer a)) h
    rw [hbus]
    refine ⟨fun v vs hv => ⟨Bus.answer_given _ _ a v vs h hv, ?_⟩, fun hv => Bus.answer_free _ _ a h hv, rfl⟩
    rw [hv]
    rfl
  · exact ⟨.answering v w, Bus.answering_answer v w s.mem a, Bus.answering_after_answer v w v s.mem a a⟩
  · exact ⟨.answering v w, _, _, rfl, Bus.answering_answer v w s.mem s.hl, rfl,
      Bus.answering_after_answer v w v s.mem s.hl s.hl⟩

/-! What the bus accepts (20_memory.md R56) changes neither an answer nor what the bus has seen. -/

/-- The state on a bus that ignores writes in other ranges of addresses. -/
def State.ignoring (s : State) (ranges : List AddrRange) : State :=
  { s with bus := { s.bus with nonWritable := ranges } }

section Ignoring
variable (s : State) (ranges : List AddrRange)

@[simp] theorem State.ignoring_a : (s.ignoring ranges).a = s.a := rfl
@[simp] theorem State.ignoring_pc : (s.ignoring ranges).pc = s.pc := rfl
@[simp] theorem State.ignoring_sp : (s.ignoring ranges).sp = s.sp := rfl
@[simp] theorem State.ignoring_hl : (s.ignoring ranges).hl = s.hl := rfl
@[simp] theorem State.ignoring_r8 (r : Reg8) : (s.ignoring ranges).r8 r = s.r8 r := rfl
@[simp] theorem State.ignoring_r16 (rr : Pair) : (s.ignoring ranges).r16 rr = s.r16 rr := rfl
@[simp] theorem State.ignoring_r16s (rr : StackPair) : (s.ignoring ranges).r16s rr = s.r16s rr := rfl
@[simp] theorem State.ignoring_flag (fl : Flag) : (s.ignoring ranges).flag fl = s.flag fl := rfl
@[simp] theorem State.ignoring_cond (cc : Cond) : (s.ignoring ranges).cond cc = s.cond cc := rfl
@[simp] theorem State.ignoring_accAddr (m : AccMode) : (s.ignoring ranges).accAddr m = s.accAddr m := rfl
@[simp] theorem State.ignoring_answer (a : Word) : (s.ignoring ranges).answer a = s.answer a := rfl

@[simp] theorem State.ignoring_issued (x : Access) :
    (s.ignoring ranges).issued x = (s.issued x).ignoring ranges := by
  simp only [State.issued, State.ignoring, Bus.after_of_nonWritable]

@[simp] theorem State.ignoring_operand8 (v : Byte) :
    (s.ignoring ranges).operand8 v = (s.operand8 v).ignoring ranges := by
  rw [State.operand8, State.ignoring_issued]
  rfl

@[simp] theorem State.ignoring_operand16 (w : Word) :
    (s.ignoring ranges).operand16 w = (s.operand16 w).ignoring ranges := by
  rw [State.operand16, State.ignoring_issued, State.ignoring_issued]
  rfl

@[simp] theorem State.ignoring_accFetch (m : AccMode) :
    (s.ignoring ranges).accFetch m = (s.accFetch m).ignoring ranges := by
  cases m with
  | atA16 a16 => exact s.ignoring_operand16 ranges a16
  | highA8 a8 => exact s.ignoring_operand8 ranges a8
  | atBC | atDE | atHLinc | atHLdec | highC => rfl

@[simp] theorem State.ignoring_pop16 :
    (s.ignoring ranges).pop16 = (s.pop16.1, s.pop16.2.ignoring ranges) := by
  simp only [State.pop16_eq, State.readWord_eq, State.ignoring_issued, State.ignoring_answer]
  rfl

@[simp] theorem State.ignoring_readOpnd (o : Opnd8) :
    (s.ignoring ranges).readOpnd o = ((s.readOpnd o).1, (s.readOpnd o).2.ignoring ranges) := by
  cases o with
  | reg r => rfl
  | atHL => exact congrArg _ (s.ignoring_issued ranges _)

end Ignoring

/-- The core's own part of a state: memory and the bus are forgotten. -/
def State.core (s : State) : State := { s with mem := [], bus := Bus.flat }

section Core
variable (s : State)

@[simp] theorem State.core_ignoring (ranges : List AddrRange) : (s.ignoring ranges).core = s.core := rfl

/-! Every update of the core's own part depends on that part alone. -/

@[simp] theorem State.core_setA (v : Byte) : (s.setA v).core = s.core.setA v := rfl
@[simp] theorem State.core_setHL (w : Word) : (s.setHL w).core = s.core.setHL w := rfl
@[simp] theorem State.core_setPC (w : Word) : (s.setPC w).core = s.core.setPC w := rfl
@[simp] theorem State.core_setSP (w : Word) : (s.setSP w).core = s.core.setSP w := rfl
@[simp] theorem State.core_setIME (b : Bool) : (s.setIME b).core = s.core.setIME b := rfl
@[simp] theorem State.core_clk (n : Nat) : (s.clk n).core = s.core.clk n := rfl
@[simp] theorem State.core_setFlag (fl : Flag) (v : Bool) : (s.setFlag fl v).core = s.core.setFlag fl v := rfl
@[simp] theorem State.core_setR8 (r : Reg8) (v : Byte) : (s.setR8 r v).core = s.core.setR8 r v := by cases r <;> rfl
@[simp] theorem State.core_setR16 (rr : Pair) (w : Word) : (s.setR16 rr w).core = s.core.setR16 rr w := by
  cases rr <;> rfl
@[simp] theorem State.core_setR16s (rr : StackPair) (w : Word) : (s.setR16s rr w).core = s.core.setR16s rr w := by
  cases rr <;> rfl
@[simp] theorem State.core_accPost (m : AccMode) : (s.accPost m).core = s.core.accPost m := by cases m <;> rfl
@[simp] theorem State.core_aluAcc (op : AluOp) (v : Byte) : (s.aluAcc op v).core = s.core.aluAcc op v := by
  cases op <;> rfl

/-- A write leaves its record in the core's own part, whether or not the bus accepts it. -/
@[simp] theorem State.core_writeByte (a : Word) (v : Byte) :
    (s.writeByte a v).core = { s.core with accesses := s.core.accesses ++ [.write a v] } := rfl

@[simp] theorem State.core_writeWord (a w : Word) :
    (s.writeWord a w).core = { s.core with accesses := s.core.accesses ++ wordWrites a w } := by
  simp [State.writeWord, wordWrites]

@[simp] theorem State.core_writeOpnd_ignoring (ranges : List AddrRange) (o : Opnd8) (v : Byte) :
    ((s.ignoring ranges).writeOpnd o v).core = (s.writeOpnd o v).core := by
  cases o <;> simp [State.writeOpnd]

end Core

/-- States with the same core have the same register file. -/
theorem SameRegisterFile.of_core {s t : State} (h : t.core = s.core) : SameRegisterFile s t := by
  have field {α : Type} (g : State → α) : g t.core = g s.core := congrArg g h
  exact ⟨fun r => field (fun u => u.r8 r), field State.f, field State.pc, field State.sp, field State.ime,
    field State.lastClockT, field State.lastClockM⟩

/-- Every form leaves the core as it does on a bus that accepts other writes: no form reads after it writes. -/
theorem execForm_ignoring {f : Form} (hf : ∀ o, f ≠ .prefixCB o) (s : State) (ranges : List AddrRange) :
    ∃ t t', execForm f s = .next t ∧ execForm f (s.ignoring ranges) = .next t' ∧ t'.core = t.core := by
  cases f with
  | prefixCB o => exact absurd rfl (hf o)
  | jpC cc a16 | jrC cc a16 | callC cc a16 | retC cc =>
    by_cases hc : s.cond cc = true
    · exact ⟨_, _, if_pos hc, if_pos hc, by simp [State.branchRel, State.callFrom, State.popPC, State.push16]⟩
    · exact ⟨_, _, if_neg hc, if_neg hc, by simp [State.skip]⟩
  | jr _ | call _ | ret | reti | push _ | rst _ =>
    exact ⟨_, _, rfl, rfl, by simp [State.branchRel, State.callFrom, State.popPC, State.push16]⟩
  | bit _ _ | rot _ _ | scf | ccf | addHL _ | ldHLSPr8 _ | addSPr8 _ | rlca | rla | rrca | rra =>
    exact ⟨_, _, rfl, rfl, by simp [State.setFlags, State.setNHC, State.setZNH]⟩
  -- Where Z is a comparison, the two sides decide it in ways equal by definition.
  | inc8 o | dec8 o => cases o <;> exact ⟨_, _, rfl, rfl, by simp [State.setZNH]; rfl⟩
  | daa => exact ⟨_, _, rfl, rfl, by simp; rfl⟩
  | alu op o => cases o <;> exact ⟨_, _, rfl, rfl, by simp⟩
  | unused _ => exact ⟨_, _, rfl, rfl, rfl⟩
  | _ => exact ⟨_, _, rfl, rfl, by simp⟩

/-- The same of every instruction. -/
theorem exec_ignoring (i : Instr) (s : State) (ranges : List AddrRange) :
    ∃ t t', exec i s = .next t ∧ exec i (s.ignoring ranges) = .next t' ∧ t'.core = t.core := by
  rw [exec_eq_execForm, exec_eq_execForm]
  by_cases hx : ∃ o, i.form = .prefixCB o
  · obtain ⟨o, ho⟩ := hx
    have hentry (u : State) : execForm (.prefixCB o) u = execForm (extForm o) (u.operand8 o) := extTable_eq o _
    rw [ho, hentry, hentry, State.ignoring_operand8]
    exact execForm_ignoring (extForm_ne_prefixCB o) _ ranges
  · exact execForm_ignoring (fun o ho => hx ⟨o, ho⟩) s ranges

/-- Settles O19: whether a write takes effect shows in memory and the bus alone; a bus that ignores every write answers
what was there before it. -/
theorem busAcceptanceIsInvisible : Obligations.BusAcceptanceIsInvisible := by
  refine ⟨fun i s ranges => ?_, State.reset.ignoring [⟨0, 0xFFFF⟩], 0#16, 1#8, by decide⟩
  obtain ⟨t, t', ht, ht', h⟩ := exec_ignoring i s ranges
  exact ⟨t, t', ht, ht', .of_core h, (congrArg State.accesses h :)⟩

end Sys2Proof.Machine

namespace Sys2Proof

/-! The bytes of a form: its opcode byte or bytes, then its operand (30_encoding.md R81, R90). -/

/-- The operand bytes of a form: those after the opcode byte; the extended forms have none. -/
def Form.operand (f : Form) : List Byte :=
  match f with
  | .rot _ _ | .bit _ _ | .res _ _ | .set _ _ => []
  | f => f.encode.tail

/-- A form of one opcode byte whose operand is none, the first or both of the two bytes after it. -/
def Form.IsBaseEntry (b1 b2 : Byte) (f : Form) : Prop :=
  f.operand <+: [b1, b2] ∧ f.encode.length = 1 + f.operand.length

theorem baseForm0_isBaseEntry (op b1 b2 : Byte) : (baseForm0 op b1 b2).IsBaseEntry b1 b2 := by
  unfold baseForm0
  repeat' split
  all_goals simp [Form.IsBaseEntry, Form.operand, Form.encode, withWord, AccMode.encodeStore, AccMode.encodeLoad]

theorem baseForm1_isBaseEntry (op b1 b2 : Byte) : (baseForm1 op).IsBaseEntry b1 b2 := by
  unfold baseForm1
  split <;> simp [Form.IsBaseEntry, Form.operand, Form.encode]

theorem baseForm3_isBaseEntry (op b1 b2 : Byte) : (baseForm3 op b1 b2).IsBaseEntry b1 b2 := by
  unfold baseForm3
  repeat' split
  all_goals simp [Form.IsBaseEntry, Form.operand, Form.encode, withWord, AccMode.encodeStore, AccMode.encodeLoad]

/-- Every entry of the base table is such a form. -/
theorem baseForm_isBaseEntry (op b1 b2 : Byte) : (baseForm op b1 b2).IsBaseEntry b1 b2 := by
  unfold baseForm
  split
  · exact baseForm0_isBaseEntry op b1 b2
  · exact baseForm1_isBaseEntry op b1 b2
  · simp [Form.IsBaseEntry, Form.operand, Form.encode]
  · exact baseForm3_isBaseEntry op b1 b2

theorem baseForm0_ne_prefixCB (op b1 b2 o : Byte) : baseForm0 op b1 b2 ≠ .prefixCB o := by
  unfold baseForm0
  repeat' split
  all_goals exact Form.noConfusion

theorem baseForm1_ne_prefixCB (op o : Byte) : baseForm1 op ≠ .prefixCB o := by
  unfold baseForm1
  split <;> exact Form.noConfusion

theorem fields_of_baseForm3_eq_prefixCB {op b1 b2 o : Byte} (h : baseForm3 op b1 b2 = .prefixCB o) :
    opZ op = 3 ∧ opY op = 1 := by
  unfold baseForm3 at h
  repeat' split at h
  any_goals cases h
  exact ⟨‹_›, ‹_›⟩

/-- The 0xCB entry stands at the byte 0xCB alone. -/
theorem eq_prefixByte_of_baseForm {op b1 b2 o : Byte} (h : baseForm op b1 b2 = .prefixCB o) :
    op = Config.prefixByte := by
  unfold baseForm at h
  split at h
  · exact absurd h (baseForm0_ne_prefixCB op b1 b2 o)
  · exact absurd h (baseForm1_ne_prefixCB op o)
  · cases h
  · next h0 h1 h2 =>
    obtain ⟨hz, hy⟩ := fields_of_baseForm3_eq_prefixCB h
    have hlt := op.isLt
    simp only [opX, opY, opZ, imp_false] at h0 h1 h2 hz hy
    have hop : op.toNat = 203 := by omega
    exact BitVec.eq_of_toNat_eq hop

end Sys2Proof

namespace Sys2Proof.Machine

/-! The form of the instruction at `PC`. -/

/-- The instruction at `PC`, when its first byte is 0xCB. -/
theorem State.fetchInstr_form_prefix {s : State} (h : s.answer s.pc = Config.prefixByte) :
    s.fetchInstr.form = extForm (s.streamByte 1) := by
  rw [State.fetchInstr, s.bytesAtPC_eq, decode3, form_instr, decodeForm, if_pos (s.streamByte_zero.trans h)]

/-- The instruction at `PC`, when its first byte is another one. -/
theorem State.fetchInstr_form_base {s : State} (h : s.answer s.pc ≠ Config.prefixByte) :
    s.fetchInstr.form = baseForm (s.streamByte 0) (s.streamByte 1) (s.streamByte 2) := by
  rw [State.fetchInstr, s.bytesAtPC_eq, decode3, form_instr, decodeForm,
    if_neg (fun h0 => h (s.streamByte_zero.symm.trans h0))]

/-! Fetching: the bytes read from `PC` on. -/

/-- Since the step began at `s`, the first `n` bytes of the stream have been fetched and nothing else has happened. -/
def State.Fetched (s : State) (n : Nat) (u : State) : Prop :=
  Issues s.beginStep u (s.streamReads n) ∧ u.pc = s.pc + BitVec.ofNat 16 n ∧ u.mem = s.mem

/-- One more byte of the stream, as a handler's operand. -/
theorem State.Fetched.operand8 {s u : State} {n : Nat} (k : s.Fetched n u) :
    s.Fetched (n + 1) (u.operand8 (s.streamByte n)) := by
  obtain ⟨⟨hacc, hbus⟩, hpc, hmem⟩ := k
  refine ⟨⟨?_, ?_⟩, ?_, hmem⟩
  · rw [State.operand8_accesses, hacc, hpc, State.streamReads_succ, List.append_assoc]
  · rw [State.operand8_bus, hbus, hpc, State.streamReads_succ, Bus.afterAll_append]
    rfl
  · rw [State.operand8_pc, hpc, BitVec.add_assoc, ← BitVec.ofNat_add]

theorem State.fetched_handlerEntry_prefix {s : State} (h : s.answer s.pc = Config.prefixByte) :
    s.Fetched 2 s.handlerEntry := by
  rw [s.handlerEntry_prefix_eq h]
  exact ⟨⟨rfl, rfl⟩, rfl, rfl⟩

theorem State.fetched_handlerEntry_base {s : State} (h : s.answer s.pc ≠ Config.prefixByte) :
    s.Fetched 1 s.handlerEntry := by
  rw [s.handlerEntry_base_eq h]
  exact ⟨⟨rfl, rfl⟩, rfl, rfl⟩

/-- Operand bytes fetched one after the other. -/
def State.fetchAll (s : State) (bs : List Byte) : State := bs.foldl State.operand8 s

/-- A handler of the base table that fetches its operand fetches the stream. -/
theorem State.Fetched.fetchAll {s u : State} {bs : List Byte} (k : s.Fetched 1 u)
    (hbs : bs <+: [s.streamByte 1, s.streamByte 2]) : s.Fetched (1 + bs.length) (u.fetchAll bs) := by
  obtain ⟨rest, h⟩ := hbs
  match bs, h with
  | [], _ => exact k
  | [b1], h => cases h; exact k.operand8
  | [b1, b2], h => cases h; exact k.operand8.operand8

/-! What a handler reads and writes, in order. -/

/-- The operand fetch of a form; a conditional that is not taken fetches nothing (20_memory.md R58). -/
def State.fetchOperand (s : State) (f : Form) : State :=
  match f with
  | .ldRI _ b | .ldMI b | .ldHLSPr8 b | .addSPr8 b | .aluI _ b | .jr b => s.operand8 b
  | .ldPI _ w | .stSP w | .jp w | .call w => s.operand16 w
  | .stAcc m | .ldAcc m => s.accFetch m
  | .jrC cc b => if s.cond cc then s.operand8 b else s
  | .jpC cc w | .callC cc w => if s.cond cc then s.operand16 w else s
  | _ => s

theorem State.fetchAll_word (s : State) (w : Word) : s.fetchAll [lo8 w, hi8 w] = s.operand16 w := by
  simp only [State.fetchAll, List.foldl, State.operand8, State.operand16, State.setPC, State.issued]
  rw [BitVec.add_assoc]
  rfl

/-- A form that is taken fetches its operand bytes. -/
theorem State.fetchOperand_taken {s : State} {f : Form} (hf : ∀ o, f ≠ .prefixCB o) (h : f.notTaken s = false) :
    s.fetchOperand f = s.fetchAll f.operand := by
  cases f with
  | prefixCB o => exact absurd rfl (hf o)
  | stAcc m | ldAcc m =>
    cases m with
    | atA16 a16 => exact (s.fetchAll_word a16).symm
    | highA8 | atBC | atDE | atHLinc | atHLdec | highC => rfl
  | ldPI _ w | stSP w | jp w | call w => exact (s.fetchAll_word w).symm
  | jpC cc w | callC cc w => exact (if_pos (by simpa [Form.notTaken] using h)).trans (s.fetchAll_word w).symm
  | jrC cc b => exact if_pos (by simpa [Form.notTaken] using h)
  | _ => rfl

/-- A form that is not taken fetches nothing. -/
theorem State.fetchOperand_notTaken {s : State} {f : Form} (h : f.notTaken s = true) : s.fetchOperand f = s := by
  cases f with
  | jpC cc w | callC cc w | jrC cc w => exact if_neg (by simpa [Form.notTaken] using h)
  | retC _ => rfl
  | _ => cases h

@[simp] theorem State.accPost_accesses (s : State) (m : AccMode) : (s.accPost m).accesses = s.accesses := by
  rw [State.accPost_eq, State.setHL_accesses]

@[simp] theorem State.setR16s_accesses (s : State) (rr : StackPair) (w : Word) :
    (s.setR16s rr w).accesses = s.accesses := by cases rr <;> rfl

/-- From `s` to `t` the accesses issued are reads at some addresses and then writes at some addresses. -/
def ReadsThenWrites (s : State) (reads stores : List Word) (t : State) : Prop :=
  ∃ writes : List Access, (∀ x ∈ writes, x.isWrite = true) ∧ writes.map Access.addr = stores ∧
    t.accesses = s.accesses ++ s.readsOf reads ++ writes

namespace ReadsThenWrites
variable {s t : State} {as : List Word}

theorem reads (h : t.accesses = s.accesses ++ s.readsOf as) : ReadsThenWrites s as [] t :=
  ⟨[], by simp, rfl, by rw [h, List.append_nil]⟩

theorem none (h : t.accesses = s.accesses) : ReadsThenWrites s [] [] t := .reads (by simpa using h)

theorem byte {a : Word} {v : Byte} (h : t.accesses = s.accesses ++ s.readsOf as ++ [.write a v]) :
    ReadsThenWrites s as [a] t := ⟨[.write a v], by simp [Access.isWrite], rfl, h⟩

theorem word {a w : Word} (h : t.accesses = (s.writeWord a w).accesses) : ReadsThenWrites s [] [a, a + 1#16] t :=
  ⟨wordWrites a w, by simp [wordWrites, Access.isWrite], rfl, by rw [h, s.writeWord_eq]; simp [wordWrites]⟩

/-- A push writes the word below the stack pointer. -/
theorem push {w : Word} (h : t.accesses = (s.push16 w).accesses) : ReadsThenWrites s [] s.pushAddrs t :=
  word (s := s.setSP (s.sp - 2#16)) h

/-- A pop reads the word at the stack pointer. -/
theorem pop (h : t.accesses = s.pop16.2.accesses) : ReadsThenWrites s [s.sp, s.sp + 1#16] [] t :=
  reads (by rw [h, s.pop16_state]; rfl)

/-- A read of an `r` operand. -/
theorem readOpnd {o : Opnd8} (h : t.accesses = (s.readOpnd o).2.accesses) : ReadsThenWrites s (o.readsAt s) [] t := by
  cases o with
  | reg r => exact none h
  | atHL => exact reads h

/-- A read of an `r` operand, then a write of it. -/
theorem opnd {o : Opnd8} {v : Byte} (h : t.accesses = ((s.readOpnd o).2.writeOpnd o v).accesses) :
    ReadsThenWrites s (o.readsAt s) (o.storesAt s) t := by
  cases o with
  | reg r => exact none (h.trans (s.setR8_accesses r v))
  | atHL => exact byte h

end ReadsThenWrites

/-- Every form fetches its operand, reads its data, then writes, in this order and nothing else. -/
theorem execForm_accesses {f : Form} {s t : State} (hf : ∀ o, f ≠ .prefixCB o) (h : execForm f s = .next t) :
    ReadsThenWrites (s.fetchOperand f) (f.dataReads s) (f.storesAt s) t := by
  cases f with
  | prefixCB o => exact absurd rfl (hf o)
  | ldRM d => cases h; exact .reads (s := s) (as := [s.hl]) (by simp)
  | ldMI d8 => cases h; exact .byte (s := s.operand8 d8) (as := []) (v := d8) (by simp)
  | ldMR r => cases h; exact .byte (s := s) (as := []) (v := s.r8 r) (by simp)
  | stAcc m => cases h; exact .byte (s := s.accFetch m) (as := []) (v := s.a) (by simp)
  | ldAcc m => cases h; exact .reads (s := s.accFetch m) (as := [s.accAddr m]) (by simp)
  | stSP a16 => cases h; exact .word (s := s.operand16 a16) (w := s.sp) (State.clk_accesses _ _)
  | inc8 o | dec8 o =>
    cases o with
    | reg r => cases h; exact .none (s := s) (by simp)
    | atHL => cases h; exact .opnd (o := .atHL) (s := s) (by rw [State.clk_accesses, State.setZNH_accesses]; rfl)
  | rot op o => cases h; exact .opnd (s := s) (by rw [State.clk_accesses, State.setFlags_accesses])
  | bit n o => cases h; exact .readOpnd (s := s) (by simp)
  | res n o | set n o => cases h; exact .opnd (s := s) (State.clk_accesses _ _)
  | alu op o =>
    cases o with
    | reg r => cases h; exact .none (s := s) (by simp)
    | atHL => cases h; exact .readOpnd (o := .atHL) (s := s) (by simp; rfl)
  | push rr => cases h; exact .push (s := s) (State.clk_accesses _ _)
  | rst n => cases h; exact .push (s := s) (by rw [State.clk_accesses, State.setPC_accesses])
  | pop rr => cases h; exact .pop (s := s) (by simp)
  | ret | reti => cases h; exact .pop (s := s) (by simp [State.popPC])
  | call a16 => cases h; exact .push (s := s.operand16 a16) (w := s.pc + 2#16) (by simp [State.callFrom])
  | callC cc a16 =>
    obtain ⟨hc, rfl⟩ | ⟨hc, rfl⟩ := next_of_ite h
    · simp only [State.fetchOperand, Form.storesAt, if_pos hc]
      exact .push (s := s.operand16 a16) (w := s.pc + 2#16) (by simp [State.callFrom])
    · simp only [State.fetchOperand, Form.storesAt, if_neg hc]
      exact .none (by simp)
  | jpC cc _ | jrC cc _ =>
    obtain ⟨hc, rfl⟩ | ⟨hc, rfl⟩ := next_of_ite h
    · simp only [State.fetchOperand, if_pos hc]
      exact .none (by simp [State.branchRel])
    · simp only [State.fetchOperand, if_neg hc]
      exact .none (by simp)
  | retC cc =>
    obtain ⟨hc, rfl⟩ | ⟨hc, rfl⟩ := next_of_ite h
    · simp only [State.fetchOperand, Form.dataReads, if_pos hc]
      exact .pop (by simp [State.popPC])
    · simp only [State.fetchOperand, Form.dataReads, if_neg hc]
      exact .none (by simp)
  | _ => cases h; exact .none (by simp [State.fetchOperand, State.branchRel])

/-! The accesses of a step (20_memory.md R58). -/

/-- What does not read `PC`, the bus or the model's own records is at handler entry what it was before the step. -/
theorem State.handlerEntry_congr {α : Type} (g : State → α) (s : State)
    (h : ∀ pc bus xs w, g { s with pc := pc, bus := bus, accesses := xs, unusedWarn := w } = g s) :
    g s.handlerEntry = g s := by
  by_cases hp : s.answer s.pc = Config.prefixByte
  · rw [s.handlerEntry_prefix_eq hp, h]
  · rw [s.handlerEntry_base_eq hp, h]

theorem Form.dataReads_handlerEntry (f : Form) (s : State) : f.dataReads s.handlerEntry = f.dataReads s :=
  s.handlerEntry_congr f.dataReads fun _ _ _ _ => rfl

theorem Form.storesAt_handlerEntry (f : Form) (s : State) : f.storesAt s.handlerEntry = f.storesAt s :=
  s.handlerEntry_congr f.storesAt fun _ _ _ _ => rfl

theorem Form.notTaken_handlerEntry (f : Form) (s : State) : f.notTaken s.handlerEntry = f.notTaken s :=
  s.handlerEntry_congr f.notTaken fun _ _ _ _ => rfl

theorem extForm_fetchOperand (op2 : Byte) (s : State) : s.fetchOperand (extForm op2) = s := by
  obtain ⟨_, _, h⟩ | ⟨_, _, h⟩ | ⟨_, _, h⟩ | ⟨_, _, h⟩ := extForm_cases op2 <;> rw [h] <;> rfl

theorem extForm_streamLength (op2 : Byte) (s : State) : (extForm op2).streamLength s = 2 := by
  obtain ⟨_, _, h⟩ | ⟨_, _, h⟩ | ⟨_, _, h⟩ | ⟨_, _, h⟩ := extForm_cases op2 <;> rw [h] <;> rfl

/-- A step never runs the 0xCB entry itself: the byte after 0xCB selects the form (30_encoding.md R81). -/
theorem State.fetchInstr_form_ne_prefixCB (s : State) (o : Byte) : s.fetchInstr.form ≠ .prefixCB o := by
  by_cases hp : s.answer s.pc = Config.prefixByte
  · rw [s.fetchInstr_form_prefix hp]
    exact extForm_ne_prefixCB _ o
  · rw [s.fetchInstr_form_base hp]
    exact fun h => hp (s.streamByte_zero.symm.trans (eq_prefixByte_of_baseForm h))

/-- Once a step's form has its operand, exactly the bytes it reads of itself have been fetched. -/
theorem State.fetched_fetchOperand (s : State) :
    s.Fetched (s.fetchInstr.form.streamLength s) (s.handlerEntry.fetchOperand s.fetchInstr.form) := by
  have hne := s.fetchInstr_form_ne_prefixCB
  by_cases hp : s.answer s.pc = Config.prefixByte
  · rw [s.fetchInstr_form_prefix hp, extForm_fetchOperand, extForm_streamLength]
    exact s.fetched_handlerEntry_prefix hp
  · have hentry := s.fetched_handlerEntry_base hp
    obtain ⟨hop, hlen⟩ := baseForm_isBaseEntry (s.streamByte 0) (s.streamByte 1) (s.streamByte 2)
    rw [← s.fetchInstr_form_base hp] at hop hlen
    generalize s.fetchInstr.form = f at *
    rw [Form.streamLength]
    split
    · next ht => rwa [State.fetchOperand_notTaken ((Form.notTaken_handlerEntry f s).trans ht)]
    · next ht =>
      rw [State.fetchOperand_taken hne ((Form.notTaken_handlerEntry f s).trans (eq_false_of_ne_true ht)), hlen]
      exact hentry.fetchAll hop

/-- A step reads its own bytes, then its data, then writes. -/
theorem step_accesses {s t : State} (h : step s = .next t) :
    ∃ writes : List Access, (∀ x ∈ writes, x.isWrite = true) ∧
      writes.map Access.addr = s.fetchInstr.form.storesAt s ∧
      t.accesses =
        s.readsOf (s.streamAddrs (s.fetchInstr.form.streamLength s) ++ s.fetchInstr.form.dataReads s) ++ writes := by
  obtain ⟨⟨hacc, hbus⟩, _, hmem⟩ := s.fetched_fetchOperand
  rw [step, exec_eq_execForm] at h
  obtain ⟨writes, hw, hat, ht⟩ := execForm_accesses s.fetchInstr_form_ne_prefixCB h
  rw [Form.storesAt_handlerEntry] at hat
  rw [Form.dataReads_handlerEntry] at ht
  refine ⟨writes, hw, hat, ?_⟩
  rw [ht, hacc, State.readsOf_append s _ _ _ hbus hmem]
  rfl

/-! How many. -/

theorem readCount_append (xs ys : List Access) : readCount (xs ++ ys) = readCount xs + readCount ys :=
  List.countP_append

theorem writeCount_append (xs ys : List Access) : writeCount (xs ++ ys) = writeCount xs + writeCount ys :=
  List.countP_append

theorem readCount_writes {xs : List Access} (h : ∀ x ∈ xs, x.isWrite = true) : readCount xs = 0 :=
  List.countP_eq_zero.mpr fun x hx => by simp [h x hx]

theorem writeCount_writes {xs : List Access} (h : ∀ x ∈ xs, x.isWrite = true) : writeCount xs = xs.length :=
  List.countP_eq_length.mpr h

/-- A step reads as often as its form has bytes to read and data to read, and writes as often as it stores. -/
theorem step_counts {s t : State} (h : step s = .next t) :
    readCount t.accesses = s.fetchInstr.form.streamLength s + (s.fetchInstr.form.dataReads s).length ∧
      writeCount t.accesses = (s.fetchInstr.form.storesAt s).length := by
  obtain ⟨writes, hw, hat, ht⟩ := step_accesses h
  rw [ht, readCount_append, writeCount_append, readCount_readsOf, writeCount_readsOf, readCount_writes hw,
    writeCount_writes hw, ← hat]
  simp [State.streamAddrs]

/-- The most accesses of a form: `LD A,[a16]` reads four times; `CALL` and `LD [a16],SP` read thrice and write twice. -/
theorem Form.access_bounds (f : Form) (s : State) :
    f.streamLength s + (f.dataReads s).length ≤ 4 ∧ (f.storesAt s).length ≤ 2 ∧
      ((f.storesAt s).length = 2 → f.streamLength s + (f.dataReads s).length ≤ 3) := by
  cases f with
  | jpC cc _ | jrC cc _ | callC cc _ | retC cc =>
    cases hc : s.cond cc <;>
      simp [Form.streamLength, Form.notTaken, Form.encode, withWord, Form.dataReads, Form.storesAt, State.pushAddrs, hc]
  | stAcc m | ldAcc m =>
    cases m <;> simp [Form.streamLength, Form.notTaken, Form.encode, AccMode.encodeStore, AccMode.encodeLoad, withWord,
      Form.dataReads, Form.storesAt]
  | inc8 o | dec8 o | alu _ o | rot _ o | bit _ o | res _ o | set _ o =>
    cases o <;> simp [Form.streamLength, Form.notTaken, Form.encode, withPrefix, Form.dataReads, Form.storesAt,
      Opnd8.readsAt, Opnd8.storesAt]
  | _ =>
    simp [Form.streamLength, Form.notTaken, Form.encode, withWord, Form.dataReads, Form.storesAt, State.pushAddrs]

theorem Opnd8.length_readsAt (o : Opnd8) (s : State) : (o.readsAt s).length = o.memCount := by cases o <;> rfl
theorem Opnd8.length_storesAt (o : Opnd8) (s : State) : (o.storesAt s).length = o.memCount := by cases o <;> rfl

/-- Settles O18: the list of accesses is that of the form at `PC`; the counts are the lengths of its parts. -/
theorem stepIssuesBoundedAccesses : Obligations.StepIssuesBoundedAccesses := by
  intro s t h
  obtain ⟨hread, hwrite⟩ := step_counts h
  refine ⟨step_accesses h, ?_, fun hp o => ?_⟩
  · rw [hread, hwrite]
    exact Form.access_bounds _ s
  · rw [s.fetchInstr_form_prefix hp, extForm_streamLength] at hread
    rw [s.fetchInstr_form_prefix hp] at hwrite
    rw [hread, hwrite]
    refine ⟨fun n he => ?_, ?_⟩
    · rw [he]
      exact ⟨congrArg (2 + ·) (Opnd8.length_readsAt o s), rfl⟩
    · rintro (⟨_, he⟩ | ⟨_, he⟩ | ⟨_, he⟩) <;> rw [he] <;>
        exact ⟨congrArg (2 + ·) (Opnd8.length_readsAt o s), Opnd8.length_storesAt o s⟩

end Sys2Proof.Machine

/-! PROOFS of the family 30_encoding.md. First the opcode bytes of a form and the form with another operand; then each
table as the inverse of the opcode bytes; then the round trips and the rows. -/
namespace Sys2Proof

/-! The opcode bytes of a form, and its operand replaced (30_encoding.md R81, R90). -/

/-- The opcode byte of a form, or the two of an extended form: what `Form.operand` leaves of the encoding. -/
def Form.opcode (f : Form) : List Byte :=
  match f with
  | .rot _ _ | .bit _ _ | .res _ _ | .set _ _ => f.encode
  | f => f.encode.take 1

theorem Form.opcode_append_operand (f : Form) : f.opcode ++ f.operand = f.encode := by
  cases f with
  | stAcc m | ldAcc m => cases m <;> rfl
  | _ => rfl

/-- The mode with its operand taken from the bytes after the opcode byte. -/
def AccMode.withOperand (b1 b2 : Byte) : AccMode → AccMode
  | .atA16 _ => .atA16 (mkWord b2 b1)
  | .highA8 _ => .highA8 b1
  | m => m

/-- The form with its operand taken from the bytes after the opcode byte. -/
def Form.withOperand (b1 b2 : Byte) : Form → Form
  | .ldRI d _ => .ldRI d b1
  | .ldMI _ => .ldMI b1
  | .ldPI rr _ => .ldPI rr (mkWord b2 b1)
  | .stAcc m => .stAcc (m.withOperand b1 b2)
  | .ldAcc m => .ldAcc (m.withOperand b1 b2)
  | .stSP _ => .stSP (mkWord b2 b1)
  | .ldHLSPr8 _ => .ldHLSPr8 b1
  | .addSPr8 _ => .addSPr8 b1
  | .aluI op _ => .aluI op b1
  | .jp _ => .jp (mkWord b2 b1)
  | .jpC cc _ => .jpC cc (mkWord b2 b1)
  | .jr _ => .jr b1
  | .jrC cc _ => .jrC cc b1
  | .call _ => .call (mkWord b2 b1)
  | .callC cc _ => .callC cc (mkWord b2 b1)
  | .prefixCB _ => .prefixCB b1
  | f => f

/-- With its own operand a form is itself, whatever bytes follow. -/
theorem Form.withOperand_operand (f : Form) (rest : List Byte) :
    f.withOperand ((f.operand ++ rest).getD 0 0#8) ((f.operand ++ rest).getD 1 0#8) = f := by
  cases f with
  | ldPI _ _ | stSP _ | jp _ | jpC _ _ | call _ | callC _ _ =>
    simp [Form.operand, Form.encode, withWord, Form.withOperand]
  | stAcc m | ldAcc m =>
    cases m with
    | atA16 _ =>
      simp [Form.operand, Form.encode, AccMode.encodeStore, AccMode.encodeLoad, withWord, Form.withOperand,
        AccMode.withOperand]
    | _ => rfl
  | _ => rfl

theorem Form.length_encode_withOperand (f : Form) (b1 b2 : Byte) :
    (f.withOperand b1 b2).encode.length = f.encode.length := by
  cases f with
  | stAcc m | ldAcc m => cases m <;> rfl
  | _ => rfl

/-- The operand does not change the constructor of the form's instruction. -/
theorem Form.ctorIdx_instr_withOperand (f : Form) (b1 b2 : Byte) :
    (f.withOperand b1 b2).instr.ctorIdx = f.instr.ctorIdx := by
  cases f with
  | stAcc m | ldAcc m => cases m <;> rfl
  | ldRI d _ => cases d <;> rfl
  | ldPI rr _ => cases rr <;> rfl
  | aluI op _ => cases op <;> rfl
  | jpC cc _ | jrC cc _ | callC cc _ => cases cc <;> rfl
  | _ => rfl

/-- Instructions of one constructor have the same opcode bytes: of `j`, the number of `i`'s constructor leaves that one. -/
theorem opcode_eq_of_ctorIdx_eq {i j : Instr} (h : i.ctorIdx = j.ctorIdx) : i.form.opcode = j.form.opcode := by
  cases i <;> exact Instr.ctorElim (motive := fun j => _ = j.form.opcode) _ j h ⟨by intros; rfl⟩

/-! The fields of a byte, and the fields' names as numbers (30_encoding.md R82 to R89). -/

/-- The fields as omega and grind need them: their ranges, and `y` as `{p, q}`. -/
theorem field_bounds (op : Byte) :
    opX op < 4 ∧ opY op < 8 ∧ opZ op < 8 ∧ opP op < 4 ∧ opQ op < 2 ∧ opY op = 2 * opP op + opQ op := by
  unfold opX opY opZ opP opQ
  omega

/-- A byte is its three fields. -/
theorem ofNat_eq_of_fields {op : Byte} {n : Nat} (h : n = 64 * opX op + 8 * opY op + opZ op) :
    BitVec.ofNat 8 n = op := by
  have hn : n = op.toNat := by unfold opX opY opZ at h; omega
  rw [hn, BitVec.ofNat_toNat, BitVec.setWidth_eq]

/-- The fields of a byte written as an opcode formula. -/
theorem fields_opByte {n x y z : Nat} (h : n = 64 * x + 8 * y + z) (hx : x < 4) (hy : y < 8) (hz : z < 8) :
    opX (opByte n) = x ∧ opY (opByte n) = y ∧ opZ (opByte n) = z := by
  have hn : (opByte n).toNat = 64 * x + 8 * y + z := by
    rw [opByte, BitVec.toNat_ofNat, h]
    omega
  unfold opX opY opZ
  omega

theorem code_opnd8Of : ∀ y < 8, (opnd8Of y).code = y := by decide
theorem code_pairOf : ∀ p < 4, (pairOf p).code = p := by decide
theorem code_stackPairOf : ∀ p < 4, (stackPairOf p).code = p := by decide
theorem code_condOf : ∀ y < 4, (condOf y).code = y := by decide
theorem code_aluOpOf : ∀ y < 8, (aluOpOf y).code = y := by decide
theorem code_rotOpOf : ∀ y < 8, (rotOpOf y).code = y := by decide
theorem val_octOf {y : Nat} (h : y < 8) : (octOf y).val = y := Nat.mod_eq_of_lt h

theorem Reg8.code_lt (r : Reg8) : r.code < 8 := by cases r <;> decide
theorem Opnd8.code_lt (o : Opnd8) : o.code < 8 := by
  cases o with
  | reg r => exact r.code_lt
  | atHL => decide
theorem AluOp.code_lt (op : AluOp) : op.code < 8 := by cases op <;> decide
theorem RotOp.code_lt (op : RotOp) : op.code < 8 := by cases op <;> decide

theorem opnd8Of_regCode (r : Reg8) : opnd8Of r.code = .reg r := by cases r <;> rfl
theorem opnd8Of_code (o : Opnd8) : opnd8Of o.code = o := by
  cases o with
  | reg r => exact opnd8Of_regCode r
  | atHL => rfl
theorem aluOpOf_code (op : AluOp) : aluOpOf op.code = op := by cases op <;> rfl
theorem rotOpOf_code (op : RotOp) : rotOpOf op.code = op := by cases op <;> rfl
theorem octOf_val (n : Fin 8) : octOf n.val = n := Fin.ext (val_octOf n.isLt)

/-! The base table: a byte's entry has that opcode byte, and a form with that opcode byte is the entry. -/

theorem opcode_baseForm0 {op : Byte} (hx : opX op = 0) (b1 b2 : Byte) : (baseForm0 op b1 b2).opcode = [op] := by
  obtain ⟨-, hyl, hzl, hpl, hql, hpq⟩ := field_bounds op
  have hr := code_opnd8Of (opY op) hyl
  have hrr := code_pairOf (opP op) hpl
  have hcc := code_condOf (opY op - 4) (by omega)
  unfold baseForm0
  repeat' split
  all_goals exact congrArg ([·]) (ofNat_eq_of_fields (by grind [Opnd8.code]))

theorem opcode_baseForm1 {op : Byte} (hx : opX op = 1) : (baseForm1 op).opcode = [op] := by
  obtain ⟨-, hyl, hzl, -⟩ := field_bounds op
  have hd := code_opnd8Of (opY op) hyl
  have hr := code_opnd8Of (opZ op) hzl
  unfold baseForm1
  split <;> exact congrArg ([·]) (ofNat_eq_of_fields (by grind [Opnd8.code]))

theorem opcode_baseForm3 {op : Byte} (hx : opX op = 3) (b1 b2 : Byte) : (baseForm3 op b1 b2).opcode = [op] := by
  obtain ⟨-, hyl, hzl, hpl, hql, hpq⟩ := field_bounds op
  have hss := code_stackPairOf (opP op) hpl
  have hcc := code_condOf (opY op)
  have hop := code_aluOpOf (opY op) hyl
  have ht := val_octOf hyl
  unfold baseForm3
  repeat' split
  all_goals exact congrArg ([·]) (ofNat_eq_of_fields (by grind))

/-- The entry of a byte in the base table has that byte as its opcode. -/
theorem opcode_baseForm (op b1 b2 : Byte) : (baseForm op b1 b2).opcode = [op] := by
  obtain ⟨hxl, hyl, hzl, -⟩ := field_bounds op
  unfold baseForm
  split
  · next hx => exact opcode_baseForm0 hx b1 b2
  · next hx => exact opcode_baseForm1 hx
  · next hx =>
    have := code_aluOpOf (opY op) hyl
    have := code_opnd8Of (opZ op) hzl
    exact congrArg ([·]) (ofNat_eq_of_fields (by grind))
  · exact opcode_baseForm3 (by grind) b1 b2

/-- A form of one opcode byte is that byte's entry in the base table, but for its operand. -/
theorem baseForm_of_opcode {f : Form} {op : Byte} (h : f.opcode = [op]) (b1 b2 : Byte) :
    baseForm op b1 b2 = f.withOperand b1 b2 := by
  cases f with
  | ldRR d r =>
    cases h
    obtain ⟨hx, hy, hz⟩ :=
      fields_opByte (n := 0x40 + 8 * d.code + r.code) (x := 1) rfl (by decide) d.code_lt r.code_lt
    simp only [baseForm, baseForm1, hx, hy, hz, opnd8Of_regCode, Form.withOperand]
  | alu op o =>
    cases h
    obtain ⟨hx, hy, hz⟩ :=
      fields_opByte (n := 0x80 + 8 * op.code + o.code) (x := 2) rfl (by decide) op.code_lt o.code_lt
    simp only [baseForm, hx, hy, hz, aluOpOf_code, opnd8Of_code, Form.withOperand]
  | rot _ _ | bit _ _ | res _ _ | set _ _ => cases h
  | ldRI d _ | ldRM d => cases h; cases d <;> rfl
  | ldMR r => cases h; cases r <;> rfl
  | stAcc m | ldAcc m => cases m <;> cases h <;> rfl
  | inc8 o | dec8 o => cases h; cases o with | reg r => cases r <;> rfl | atHL => rfl
  | aluI op _ => cases h; cases op <;> rfl
  | ldPI rr _ | inc16 rr | dec16 rr | addHL rr => cases h; cases rr <;> rfl
  | push rr | pop rr => cases h; cases rr <;> rfl
  | jpC cc _ | jrC cc _ | callC cc _ | retC cc => cases h; cases cc <;> rfl
  | rst t => cases h; match t with | 0 | 1 | 2 | 3 | 4 | 5 | 6 | 7 => rfl
  | unused u => cases h; cases u <;> rfl
  | _ => cases h; rfl

/-- The bytes after an opcode byte change nothing but the operand. -/
theorem baseForm_eq_withOperand (op b1 b2 c1 c2 : Byte) :
    baseForm op c1 c2 = (baseForm op b1 b2).withOperand c1 c2 :=
  baseForm_of_opcode (opcode_baseForm op b1 b2) c1 c2

/-! The extended table, the same way. -/

theorem opcode_extForm (op2 : Byte) : (extForm op2).opcode = [Config.prefixByte, op2] := by
  obtain ⟨hxl, hyl, hzl, -⟩ := field_bounds op2
  have hr := code_opnd8Of (opZ op2) hzl
  have hop := code_rotOpOf (opY op2) hyl
  have hn := val_octOf hyl
  unfold extForm
  split <;> exact congrArg ([Config.prefixByte, ·]) (ofNat_eq_of_fields (by grind))

theorem operand_extForm (op2 : Byte) : (extForm op2).operand = [] := by
  obtain ⟨_, _, h⟩ | ⟨_, _, h⟩ | ⟨_, _, h⟩ | ⟨_, _, h⟩ := Machine.extForm_cases op2 <;> rw [h] <;> rfl

theorem encode_extForm (op2 : Byte) : (extForm op2).encode = [Config.prefixByte, op2] := by
  rw [← Form.opcode_append_operand, opcode_extForm, operand_extForm, List.append_nil]

/-- A form has one opcode byte, or it is the entry of its second byte in the extended table. -/
theorem Form.opcode_cases (f : Form) :
    (∃ op, f.opcode = [op]) ∨ ∃ op2, f.encode = [Config.prefixByte, op2] ∧ extForm op2 = f := by
  cases f with
  | rot op o =>
    obtain ⟨hx, hy, hz⟩ :=
      fields_opByte (n := 0x00 + 8 * op.code + o.code) (x := 0) rfl (by decide) op.code_lt o.code_lt
    exact .inr ⟨_, rfl, by simp only [extForm, hx, hy, hz, rotOpOf_code, opnd8Of_code]⟩
  | bit n o =>
    obtain ⟨hx, hy, hz⟩ :=
      fields_opByte (n := 0x40 + 8 * n.val + o.code) (x := 1) rfl (by decide) n.isLt o.code_lt
    exact .inr ⟨_, rfl, by simp only [extForm, hx, hy, hz, octOf_val, opnd8Of_code]⟩
  | res n o =>
    obtain ⟨hx, hy, hz⟩ :=
      fields_opByte (n := 0x80 + 8 * n.val + o.code) (x := 2) rfl (by decide) n.isLt o.code_lt
    exact .inr ⟨_, rfl, by simp only [extForm, hx, hy, hz, octOf_val, opnd8Of_code]⟩
  | set n o =>
    obtain ⟨hx, hy, hz⟩ :=
      fields_opByte (n := 0xC0 + 8 * n.val + o.code) (x := 3) rfl (by decide) n.isLt o.code_lt
    exact .inr ⟨_, rfl, by simp only [extForm, hx, hy, hz, octOf_val, opnd8Of_code]⟩
  | stAcc m | ldAcc m => cases m <;> exact .inl ⟨_, rfl⟩
  | _ => exact .inl ⟨_, rfl⟩

/-! Dual dispatch (40_step_dispatch.md R110). -/

@[simp] theorem decodeForm_prefix (b1 b2 : Byte) : decodeForm Config.prefixByte b1 b2 = extForm b1 := if_pos rfl

theorem decodeForm_base {b0 : Byte} (h : b0 ≠ Config.prefixByte) (b1 b2 : Byte) :
    decodeForm b0 b1 b2 = baseForm b0 b1 b2 := if_neg h

@[simp] theorem decode3_form (b0 b1 b2 : Byte) : (decode3 b0 b1 b2).form = decodeForm b0 b1 b2 :=
  Machine.form_instr _

theorem decodeForm_ne_prefixCB (b0 b1 b2 o : Byte) : decodeForm b0 b1 b2 ≠ .prefixCB o := by
  by_cases hp : b0 = Config.prefixByte
  · rw [hp, decodeForm_prefix]
    exact Machine.extForm_ne_prefixCB b1 o
  · rw [decodeForm_base hp]
    exact fun h => hp (eq_prefixByte_of_baseForm h)

/-- The encoding of what three bytes decode to begins with the first, and goes on with the others. -/
theorem encode_decodeForm (b0 b1 b2 : Byte) :
    ∃ bs, (decodeForm b0 b1 b2).encode = b0 :: bs ∧ bs <+: [b1, b2] := by
  by_cases hp : b0 = Config.prefixByte
  · subst hp
    exact ⟨[b1], by rw [decodeForm_prefix, encode_extForm], [b2], rfl⟩
  · obtain ⟨hop, -⟩ := baseForm_isBaseEntry b0 b1 b2
    refine ⟨_, ?_, hop⟩
    rw [decodeForm_base hp, ← Form.opcode_append_operand, opcode_baseForm]
    rfl

/-- Byte 0 decides the length (30_encoding.md R95). -/
theorem length_encode_decodeForm (b0 b1 b2 : Byte) : (decodeForm b0 b1 b2).encode.length = lengthOf b0 := by
  by_cases hp : b0 = Config.prefixByte
  · subst hp
    rw [lengthOf, decodeForm_prefix, decodeForm_prefix, encode_extForm, encode_extForm]
    rfl
  · rw [lengthOf, decodeForm_base hp, decodeForm_base hp, baseForm_eq_withOperand b0 0#8 0#8 b1 b2,
      Form.length_encode_withOperand]

theorem lengthOf_bounds (b0 : Byte) : 1 ≤ lengthOf b0 ∧ lengthOf b0 ≤ 3 := by
  obtain ⟨bs, he, hbs⟩ := encode_decodeForm b0 0#8 0#8
  have hl : bs.length ≤ 2 := hbs.length_le
  rw [lengthOf, he, List.length_cons]
  omega

/-- The bytes of a form, whatever follows them, select that form. -/
theorem decodeForm_encode (f : Form) (hf : ∀ o, f ≠ .prefixCB o) (rest : List Byte) :
    ∃ b0 bs, f.encode = b0 :: bs ∧ decodeForm b0 ((bs ++ rest).getD 0 0#8) ((bs ++ rest).getD 1 0#8) = f := by
  obtain ⟨op, hop⟩ | ⟨op2, he, h2⟩ := f.opcode_cases
  · have hb := baseForm_of_opcode hop ((f.operand ++ rest).getD 0 0#8) ((f.operand ++ rest).getD 1 0#8)
    rw [f.withOperand_operand] at hb
    have hp : op ≠ Config.prefixByte := by
      rintro rfl
      exact hf _ hb.symm
    refine ⟨op, f.operand, ?_, ?_⟩
    · rw [← f.opcode_append_operand, hop]
      rfl
    · rw [decodeForm_base hp, hb]
  · exact ⟨_, _, he, (decodeForm_prefix op2 _).trans h2⟩

theorem decode_encode_append (f : Form) (hf : ∀ o, f ≠ .prefixCB o) (rest : List Byte) :
    decode (f.encode ++ rest) = .ok (f.instr, rest) := by
  obtain ⟨b0, bs, he, hd⟩ := decodeForm_encode f hf rest
  have hlen : lengthOf b0 = bs.length + 1 := by
    rw [← length_encode_decodeForm, hd, he, List.length_cons]
  rw [he, List.cons_append, decode, if_neg (by simp [hlen]), decode3, hd, hlen, Nat.add_sub_cancel, List.drop_left]

/-- The terms that are no whole instruction are those of the 0xCB entry. -/
theorem Instr.wellFormed_iff (i : Instr) : i.wellFormed = true ↔ ∀ o, i.form ≠ .prefixCB o := by
  unfold Instr.wellFormed Instr.isPrefixEntry
  split
  · next o => exact ⟨fun h => absurd h (by decide), fun h => absurd rfl (h o)⟩
  · next hi => exact ⟨fun _ o h => hi o (by rw [← Machine.instr_form i, h]; rfl), fun _ => rfl⟩

/-- Settles O7: the bytes of a form select that form, and their number is the length byte 0 decides. -/
theorem decodeOfEncodeIsTheInstruction : Obligations.DecodeOfEncodeIsTheInstruction := by
  intro i rest hi
  rw [encode, decode_encode_append _ (i.wellFormed_iff.mp hi), Machine.instr_form]

/-- Settles O8: the encoding is a beginning of the three bytes, of the length byte 0 decides. -/
theorem encodeOfDecodeIsTheBytes : Obligations.EncodeOfDecodeIsTheBytes := by
  intro b0 b1 b2
  obtain ⟨hpos, hle⟩ := lengthOf_bounds b0
  refine ⟨(Instr.wellFormed_iff _).mpr fun o => ?_, ?_, hpos, hle, rfl⟩
  · rw [decode3_form]
    exact decodeForm_ne_prefixCB b0 b1 b2 o
  · obtain ⟨bs, he, hbs⟩ := encode_decodeForm b0 b1 b2
    have hpre : (decodeForm b0 b1 b2).encode <+: [b0, b1, b2] := he ▸ List.cons_prefix_cons.mpr ⟨rfl, hbs⟩
    rw [encode, decode3_form, ← length_encode_decodeForm b0 b1 b2]
    exact List.prefix_iff_eq_take.mp hpre

/-! Rows: the opcode bytes tell the constructor, and the constructor tells the opcode bytes (30_encoding.md R99). -/

theorem opcode_decode3_base {b0 : Byte} (h : b0 ≠ Config.prefixByte) (b1 b2 : Byte) :
    (decode3 b0 b1 b2).form.opcode = [b0] := by
  rw [decode3_form, decodeForm_base h, opcode_baseForm]

theorem opcode_decode3_prefix (b1 b2 : Byte) :
    (decode3 Config.prefixByte b1 b2).form.opcode = [Config.prefixByte, b1] := by
  rw [decode3_form, decodeForm_prefix, opcode_extForm]

theorem ctorIdx_decode3_base {b0 : Byte} (h : b0 ≠ Config.prefixByte) (b1 b2 c1 c2 : Byte) :
    (decode3 b0 c1 c2).ctorIdx = (decode3 b0 b1 b2).ctorIdx := by
  rw [decode3, decode3, decodeForm_base h, decodeForm_base h, baseForm_eq_withOperand b0 b1 b2 c1 c2,
    Form.ctorIdx_instr_withOperand]

theorem decode_of_three (b0 b1 b2 : Byte) (rest : List Byte) :
    decode (b0 :: b1 :: b2 :: rest) = .ok (decode3 b0 b1 b2, (b1 :: b2 :: rest).drop (lengthOf b0 - 1)) := by
  have hle := (lengthOf_bounds b0).2
  exact if_neg (by rw [List.length_cons, List.length_cons]; omega)

/-- Settles O9: the constructor of a decoded instruction has the opcode bytes it was decoded from. -/
theorem everyOpcodeByteHasOneRow : Obligations.EveryOpcodeByteHasOneRow := by
  refine ⟨fun b0 b1 b2 rest => ⟨_, _, decode_of_three b0 b1 b2 rest⟩, ?_, ?_, ?_⟩
  · intro b0 b1 b2 c0 c1 c2 hb hc
    constructor
    · intro h
      have hop := opcode_eq_of_ctorIdx_eq h
      rw [opcode_decode3_base hb, opcode_decode3_base hc] at hop
      exact List.singleton_inj.mp hop
    · rintro rfl
      exact ctorIdx_decode3_base hb c1 c2 b1 b2
  · intro b1 b2 c1 c2
    constructor
    · intro h
      have hop := opcode_eq_of_ctorIdx_eq h
      rw [opcode_decode3_prefix, opcode_decode3_prefix] at hop
      exact (List.cons_eq_cons.mp (List.cons_eq_cons.mp hop).2).1
    · rintro rfl
      rw [decode3, decode3, decodeForm_prefix, decodeForm_prefix]
  · intro b0 b1 b2 c1 c2 hb h
    have hop := opcode_eq_of_ctorIdx_eq h
    rw [opcode_decode3_base hb, opcode_decode3_prefix] at hop
    cases hop

/-- Settles O10: the model decodes each of the words. -/
theorem writtenOutWordsDecode : Obligations.WrittenOutWordsDecode :=
  ⟨rfl, rfl, rfl, rfl, rfl, rfl, rfl, rfl, rfl, rfl, rfl⟩

end Sys2Proof

/-! PROOFS of the family 40_step_dispatch.md. First the fetch and stack helpers, completion and the dispatch of a step; then
what every instruction costs and leaves unchanged; last what a step consumes, and conditions. -/
namespace Sys2Proof.Machine

/-! The fetch and the stack helpers (40_step_dispatch.md R111, R121). -/

/-- `ReadWord` answers the bytes of its two reads, the first one low. -/
theorem State.readWord_of_wordReadsAt {s : State} {a : Word} {lo hi : Byte}
    (h : s.wordReadsAt a = [.read a lo, .read (a + 1#16) hi]) : (s.readWord a).1 = mkWord hi lo := by
  simp only [State.wordReadsAt, List.cons.injEq, Access.read.injEq, true_and, and_true] at h
  obtain ⟨rfl, rfl⟩ := h
  exact congrArg Prod.fst (s.readWord_eq a)

/-- Settles O14: `Fetch16` is `ReadWord` at `PC`. -/
theorem fetchHelpersReadAtPC : Obligations.FetchHelpersReadAtPC := by
  intro s
  refine ⟨rfl, ⟨s.readWord_toNat s.pc, ?_⟩, fun hpc hreads => ⟨_, rfl, ?_⟩⟩
  · rw [State.fetch16_eq, State.readWord_state]
    rfl
  · rw [hpc] at hreads
    have hw : s.fetch16.1 = 0x1234#16 := by
      rw [State.fetch16_eq, hpc]
      exact State.readWord_of_wordReadsAt hreads
    rw [hw]
    exact ⟨rfl, rfl, congrArg (· + 2#16) hpc⟩

/-- Settles O26: `Push16` is a move of `SP` and a `WriteWord`, `Pop16` a `ReadWord` and a move of `SP`. -/
theorem stackHelpersPushAndPop : Obligations.StackHelpersPushAndPop := by
  intro s w hwf
  refine ⟨⟨?_, ?_, ?_, rfl, rfl, ?_⟩, ⟨s.pop16_toNat, ?_⟩, fun hsp => ?_⟩
  · rw [State.push16_sp]
    bv_omega
  · exact .of_writeWord s (s.setSP (s.sp - 2#16)) _ w hwf rfl rfl
  · exact ⟨fun r _ => s.push16_r8 w r, .of_eq _ rfl, .of_writeWord s (s.setSP (s.sp - 2#16)) _ w rfl,
      State.writeWord_bus_map _ _ _, rfl⟩
  · exact ⟨s.push16_accesses w, rfl⟩
  · rw [State.pop16_state]
    exact ⟨BitVec.toNat_add _ _, .of_eq _ _ _ (fun _ _ => rfl) rfl rfl (Bus.afterAll_map _ _) rfl, rfl, rfl, rfl, rfl⟩
  · rw [State.push16_sp, State.pushAddrs, hsp]
    exact ⟨rfl, rfl⟩

/-! Completion (40_step_dispatch.md R117) and runs (R123). -/

/-- Every instruction answers a next state: it does so on every bus, whatever writes that ignores. -/
theorem exec_completes (i : Instr) (s : State) : ∃ t, exec i s = .next t := by
  obtain ⟨t, _, h, _⟩ := exec_ignoring i s []
  exact ⟨t, h⟩

theorem step_completes (s : State) : ∃ t, step s = .next t := exec_completes _ _

/-- Settles O4: a step runs an instruction. -/
theorem everyInstructionCompletes : Obligations.EveryInstructionCompletes := ⟨exec_completes, step_completes⟩

theorem runSteps_completes (n : Nat) (s : State) : ∃ t, runSteps n s = .next t := by
  induction n generalizing s with
  | zero => exact ⟨s, rfl⟩
  | succ n ih =>
    obtain ⟨u, hu⟩ := step_completes s
    rw [runSteps_succ_of_next n s u hu]
    exact ih u

/-- Settles O5, by induction on the number of steps. -/
theorem runNeverEnds : Obligations.RunNeverEnds :=
  fun s => ⟨fun n => runSteps_completes n s, fun n t h => runSteps_succ_of_next n s t h⟩

/-! Dispatch (40_step_dispatch.md R110, R112, R113). -/

/-- The 0xCB entry runs its second byte's extended instruction once that byte has been fetched. -/
theorem exec_prefixCB (op2 : Byte) (s : State) :
    exec (.prefixCB op2) s = exec (extForm op2).instr (s.operand8 op2) := by
  rw [exec_instr, ← extTable_eq]
  rfl

/-- Settles O13: the two runs are one run, which completes. -/
theorem prefixEntryRunsTheExtendedTable : Obligations.PrefixEntryRunsTheExtendedTable := by
  intro op2 s
  obtain ⟨t, ht⟩ := exec_completes (.prefixCB op2) s
  exact ⟨⟨t, ht, by rw [← ht, exec_prefixCB]; rfl⟩, fun _ => rfl⟩

/-- Settles O11: the decoded bytes are those of the stream, and handler entry has read those the opcode takes. -/
theorem stepRunsTheDecodedInstruction : Obligations.StepRunsTheDecodedInstruction := by
  intro s
  have hfetch : s.fetchInstr = decode3 (s.streamByte 0) (s.streamByte 1) (s.streamByte 2) := by
    rw [State.fetchInstr, s.bytesAtPC_eq]
  refine ⟨fun h => ?_, fun h => ?_, s.streamReads_two, step_completes s⟩
  · rw [step, hfetch, s.handlerEntry_base_eq h]
  · have h0 : s.streamByte 0 = Config.prefixByte := s.streamByte_zero.trans h
    rw [step, hfetch, h0, decode3, decodeForm_prefix, s.handlerEntry_prefix_eq h]

/-! Costs (40_step_dispatch.md R114). -/

/-- Settles O15: the reported cost is the form's, and the forms' costs are these six. -/
theorem everyInstructionReportsItsCost : Obligations.EveryInstructionReportsItsCost := by
  intro i s t h
  obtain ⟨hT, hM⟩ := exec_reports h
  exact ⟨hT, by rw [hM, hT], hT ▸ Form.cost_mem _ s⟩

/-! Registers, `SP` and the map of the bus (40_step_dispatch.md R115). -/

@[simp] theorem State.accFetch_r8 (s : State) (m : AccMode) (r : Reg8) : (s.accFetch m).r8 r = s.r8 r := by
  rw [State.accFetch_eq]
  rfl
@[simp] theorem State.accFetch_sp (s : State) (m : AccMode) : (s.accFetch m).sp = s.sp := by rw [State.accFetch_eq]
@[simp] theorem State.accPost_sp (s : State) (m : AccMode) : (s.accPost m).sp = s.sp := by
  rw [State.accPost_eq, State.setHL_sp]
@[simp] theorem State.accPost_bus (s : State) (m : AccMode) : (s.accPost m).bus = s.bus := by
  rw [State.accPost_eq, State.setHL_bus]

@[simp] theorem State.readOpnd_snd_r8 (s : State) (o : Opnd8) (r : Reg8) : (s.readOpnd o).2.r8 r = s.r8 r := by
  cases o <;> simp [State.readOpnd]
@[simp] theorem State.readOpnd_snd_sp (s : State) (o : Opnd8) : (s.readOpnd o).2.sp = s.sp := by cases o <;> rfl
@[simp] theorem State.readOpnd_snd_bus_map (s : State) (o : Opnd8) : (s.readOpnd o).2.bus.map = s.bus.map := by
  cases o <;> simp [State.readOpnd]
@[simp] theorem State.writeOpnd_sp (s : State) (o : Opnd8) (v : Byte) : (s.writeOpnd o v).sp = s.sp := by
  cases o <;> simp [State.writeOpnd]
@[simp] theorem State.writeOpnd_bus_map (s : State) (o : Opnd8) (v : Byte) :
    (s.writeOpnd o v).bus.map = s.bus.map := by cases o <;> simp [State.writeOpnd]

@[simp] theorem State.setR16s_sp (s : State) (rr : StackPair) (w : Word) : (s.setR16s rr w).sp = s.sp := by
  cases rr <;> rfl
@[simp] theorem State.setR16s_bus (s : State) (rr : StackPair) (w : Word) : (s.setR16s rr w).bus = s.bus := by
  cases rr <;> rfl

@[simp] theorem State.branchRel_r8 (s : State) (b : Byte) (r : Reg8) : (s.branchRel b).r8 r = s.r8 r := by
  simp [State.branchRel]
@[simp] theorem State.branchRel_sp (s : State) (b : Byte) : (s.branchRel b).sp = s.sp := by rw [State.branchRel_eq]
@[simp] theorem State.branchRel_bus_map (s : State) (b : Byte) : (s.branchRel b).bus.map = s.bus.map := by
  simp [State.branchRel]
@[simp] theorem State.callFrom_r8 (s : State) (a16 : Word) (r : Reg8) : (s.callFrom a16).r8 r = s.r8 r := by
  simp [State.callFrom]
@[simp] theorem State.callFrom_bus_map (s : State) (a16 : Word) : (s.callFrom a16).bus.map = s.bus.map := by
  simp [State.callFrom]
@[simp] theorem State.pop16_snd_r8 (s : State) (r : Reg8) : s.pop16.2.r8 r = s.r8 r := by
  rw [State.pop16_state]
  rfl
@[simp] theorem State.pop16_snd_bus_map (s : State) : s.pop16.2.bus.map = s.bus.map := by
  rw [State.pop16_state, Bus.afterAll_map]
@[simp] theorem State.popPC_r8 (s : State) (r : Reg8) : s.popPC.r8 r = s.r8 r := by simp [State.popPC]
@[simp] theorem State.popPC_bus_map (s : State) : s.popPC.bus.map = s.bus.map := by simp [State.popPC]

/-- The registers an addressing mode does not move survive its base-register update. -/
theorem State.accPost_r8_other (s : State) (m : AccMode) (q : Reg8) (h : q ∉ m.regs) :
    (s.accPost m).r8 q = s.r8 q := by
  cases m with
  | atHLinc | atHLdec => exact s.setHL_r8_other _ q h
  | _ => rfl

/-- The registers an `r` operand does not name survive a write of it. -/
theorem State.writeOpnd_r8_other (s : State) (o : Opnd8) (v : Byte) (q : Reg8) (h : q ∉ o.regs) :
    (s.writeOpnd o v).r8 q = s.r8 q := by
  cases o with
  | reg r => exact s.setR8_r8_other r q v (by simpa [Opnd8.regs] using h)
  | atHL => exact s.writeByte_r8 _ _ q

theorem State.setA_r8_other (s : State) (v : Byte) (q : Reg8) (h : q ≠ .A) : (s.setA v).r8 q = s.r8 q :=
  s.setR8_r8_other .A q v h

@[simp] theorem Form.regsWritten_alu (op : AluOp) (o : Opnd8) :
    (Form.alu op o).regsWritten = if op = .cp then [] else [.A] := by cases op <;> rfl
@[simp] theorem Form.regsWritten_aluI (op : AluOp) (d8 : Byte) :
    (Form.aluI op d8).regsWritten = if op = .cp then [] else [.A] := by cases op <;> rfl

/-- An accumulator operation writes `A` alone, and `CP` does not write it. -/
theorem State.aluAcc_r8_kept (s : State) (op : AluOp) (v : Byte) (q : Reg8) (h : op ≠ .cp → q ≠ .A) :
    (s.aluAcc op v).r8 q = s.r8 q := by
  by_cases hq : q = .A
  · have hop : op = .cp := not_imp_not.mp h hq
    subst hq
    exact (s.aluAcc_a op v).trans (if_pos hop)
  · exact s.aluAcc_r8_other op v q hq

/-- Every form leaves the 8-bit registers it does not write. -/
theorem execForm_keepsRegs {f : Form} {s t : State} (hf : ∀ o, f ≠ .prefixCB o) (h : execForm f s = .next t) :
    KeepsRegs f.regsWritten s t := by
  intro q hq
  cases f with
  | prefixCB o => exact absurd rfl (hf o)
  | ldRR d _ | ldRI d _ | ldRM d =>
    cases h
    simp [State.setR8_r8_other _ d q _ (by simpa [Form.regsWritten] using hq)]
  | ldPI rr _ | inc16 rr | dec16 rr => cases h; simp [State.setR16_r8_other _ rr _ q hq]
  | stAcc m => cases h; simp [State.accPost_r8_other _ m q hq]
  | ldAcc m =>
    cases h
    obtain ⟨hA, hm⟩ : q ≠ .A ∧ q ∉ m.regs := by simpa [Form.regsWritten] using hq
    simp [State.accPost_r8_other _ m q hm, State.setA_r8_other _ _ q hA]
  | ldHLSP | ldHLSPr8 _ | addHL _ => cases h; simp [State.setHL_r8_other _ _ q hq]
  | inc8 o | dec8 o =>
    cases o with
    | reg r => cases h; simp [State.setR8_r8_other _ r q _ (by simpa [Form.regsWritten, Opnd8.regs] using hq)]
    | atHL => cases h; simp
  | rot _ o | res _ o | set _ o => cases h; simp [State.writeOpnd_r8_other _ o _ q hq]
  | pop rr => cases h; simp [State.setR16s_r8_other _ rr _ q hq]
  | alu op o => cases o <;> cases h <;> simp [State.aluAcc_r8_kept _ op _ q (by simpa using hq)]
  | aluI op _ => cases h; simp [State.aluAcc_r8_kept _ op _ q (by simpa using hq)]
  | daa | cpl | rlca | rla | rrca | rra =>
    cases h
    simp [State.setA_r8_other _ _ q (by simpa [Form.regsWritten] using hq)]
  | jpC cc _ | jrC cc _ | callC cc _ | retC cc =>
    obtain ⟨_, rfl⟩ | ⟨_, rfl⟩ := next_of_ite h
    · simp
    · simp
  | unused _ => cases h; cases q <;> rfl
  | _ => cases h; simp

/-- Every form outside 10_state.md R27 leaves `SP`. -/
theorem execForm_sp {f : Form} {s t : State} (hf : ∀ o, f ≠ .prefixCB o) (hw : f.writesSP = false)
    (h : execForm f s = .next t) : t.sp = s.sp := by
  cases f with
  | prefixCB o => exact absurd rfl (hf o)
  | addSPr8 _ | push _ | pop _ | call _ | callC _ _ | ret | retC _ | reti | rst _ => cases hw
  | ldPI rr _ | inc16 rr | dec16 rr =>
    have hr : rr ≠ .SP := by rintro rfl; cases hw
    cases h
    simp [State.setR16_sp _ rr _ hr]
  | inc8 o | dec8 o | alu _ o => cases o <;> cases h <;> simp
  | jpC cc _ | jrC cc _ =>
    obtain ⟨_, rfl⟩ | ⟨_, rfl⟩ := next_of_ite h
    · simp
    · simp
  | _ => cases h; simp

/-- No form changes which addresses are plain memory or which of them ignore writes. -/
theorem execForm_bus_map {f : Form} {s t : State} (hf : ∀ o, f ≠ .prefixCB o) (h : execForm f s = .next t) :
    t.bus.map = s.bus.map := by
  cases f with
  | prefixCB o => exact absurd rfl (hf o)
  | inc8 o | dec8 o | alu _ o => cases o <;> cases h <;> simp
  | jpC cc _ | jrC cc _ | callC cc _ | retC cc =>
    obtain ⟨_, rfl⟩ | ⟨_, rfl⟩ := next_of_ite h
    · simp
    · simp
  | _ => cases h; simp

/-- Settles O22: by the instruction's form; behind the 0xCB entry the fetched byte changes none of these. -/
theorem registersChangeOnlyWhereTheRuleSays : Obligations.RegistersChangeOnlyWhereTheRuleSays := by
  intro i s t h
  refine exec_next_induction (fun f s t => KeepsRegs f.handler.regsWritten s t ∧
    (f.writesSP = false → t.sp = s.sp) ∧ t.bus.map = s.bus.map) ?_ ?_ i s t h
  · intro f s t hf h
    rw [Form.handler_of_ne_prefixCB hf]
    exact ⟨execForm_keepsRegs hf h, fun hw => execForm_sp hf hw h, execForm_bus_map hf h⟩
  · intro o s t ⟨kr, ksp, kb⟩
    rw [Form.handler_extForm] at kr
    have hw : (extForm o).writesSP = false := by
      obtain ⟨_, _, e⟩ | ⟨_, _, e⟩ | ⟨_, _, e⟩ | ⟨_, _, e⟩ := extForm_cases o <;> rw [e] <;> rfl
    exact ⟨fun q hq => (kr q hq).trans (s.operand8_r8 o q), fun _ => ksp hw, kb.trans (Bus.after_map _ _)⟩

/-! Memory (40_step_dispatch.md R115; 20_memory.md R56, R58). -/

/-- No write, of that address or another, changes a byte at which the bus ignores writes. -/
theorem State.writeByte_peek_ignored (s : State) (a b : Word) (v : Byte) (h : s.accepts b = false) :
    (s.writeByte a v).peek b = s.peek b := by
  by_cases hb : b = a
  · exact State.peek_congr _ _ (s.writeByte_ignored a v (hb ▸ h)) b
  · exact s.writeByte_peek_other a b v hb

/-- Bytes written one after the other leave every byte at another address. -/
theorem State.writeAll_peek_other (s : State) (ws : List (Word × Byte)) (b : Word) (h : b ∉ ws.map Prod.fst) :
    (s.writeAll ws).peek b = s.peek b := by
  induction ws generalizing s with
  | nil => rfl
  | cons p ws ih =>
    rw [List.map_cons, List.mem_cons, not_or] at h
    obtain ⟨hp, hws⟩ := h
    exact (ih _ hws).trans (s.writeByte_peek_other p.1 b p.2 hp)

/-- They leave every byte at which the bus ignores writes. -/
theorem State.writeAll_peek_ignored (s : State) (ws : List (Word × Byte)) (b : Word) (h : s.accepts b = false) :
    (s.writeAll ws).peek b = s.peek b := by
  induction ws generalizing s with
  | nil => rfl
  | cons p ws ih => exact (ih _ ((s.writeByte_accepts p.1 p.2 b).trans h)).trans (s.writeByte_peek_ignored p.1 b p.2 h)

theorem WritesAt.keepsMemory {as : List Word} {s t : State} (k : WritesAt as s t) : KeepsMemory as s t := by
  obtain ⟨ws, rfl, hm⟩ := k
  exact fun b hb => (State.peek_congr _ t hm b).trans (s.writeAll_peek_other ws b hb)

theorem WritesAt.peek_ignored {as : List Word} {s t : State} (k : WritesAt as s t) {b : Word}
    (h : s.accepts b = false) : t.peek b = s.peek b := by
  obtain ⟨ws, _, hm⟩ := k
  exact (State.peek_congr _ t hm b).trans (s.writeAll_peek_ignored ws b h)

/-- Settles O23: an instruction writes memory byte by byte at its form's addresses; fetching writes none. -/
theorem memoryChangesOnlyWhereStored : Obligations.MemoryChangesOnlyWhereStored := by
  refine ⟨fun i s t h => ⟨(exec_writesAt h).keepsMemory, fun a ha => (exec_writesAt h).peek_ignored ha⟩,
    fun s t h a ha => ?_⟩
  obtain ⟨_, _, _, _, hmem, hmap, _⟩ := s.handlerEntry_rest
  have hentry : s.handlerEntry.accepts a = false := (Bus.accepts_congr hmap a).trans ha
  exact ((exec_writesAt h).peek_ignored hentry).trans (State.peek_congr _ _ hmem a)

/-! What a step consumes (40_step_dispatch.md R111; 20_memory.md R58). -/

@[simp] theorem State.readOpnd_snd_pc (s : State) (o : Opnd8) : (s.readOpnd o).2.pc = s.pc := by cases o <;> rfl
@[simp] theorem State.writeOpnd_pc (s : State) (o : Opnd8) (v : Byte) : (s.writeOpnd o v).pc = s.pc := by
  cases o <;> simp [State.writeOpnd]
@[simp] theorem State.accPost_pc (s : State) (m : AccMode) : (s.accPost m).pc = s.pc := by
  rw [State.accPost_eq, State.setHL_pc]
@[simp] theorem State.pop16_snd_pc (s : State) : s.pop16.2.pc = s.pc := by rw [State.pop16_state]
@[simp] theorem State.setR16s_pc (s : State) (rr : StackPair) (w : Word) : (s.setR16s rr w).pc = s.pc := by
  cases rr <;> rfl

/-- A form that is no control transfer leaves `PC` behind its operand. -/
theorem execForm_pc {f : Form} {s t : State} (hf : ∀ o, f ≠ .prefixCB o) (hb : f.branches = false)
    (h : execForm f s = .next t) : t.pc = (s.fetchOperand f).pc := by
  cases f with
  | prefixCB o => exact absurd rfl (hf o)
  | jp _ | jpHL | jpC _ _ | jr _ | jrC _ _ | call _ | callC _ _ | ret | retC _ | reti | rst _ => cases hb
  | inc8 o | dec8 o | alu _ o => cases o <;> cases h <;> simp [State.fetchOperand]
  | _ => cases h; simp [State.fetchOperand]

/-- A conditional that is not taken moves `PC` past the operand it skips: one byte less than its encoding. -/
theorem execForm_pc_of_notTaken {f : Form} {s t : State} (hn : f.notTaken s = true) (h : execForm f s = .next t) :
    t.pc + 1#16 = s.pc + BitVec.ofNat 16 f.encode.length := by
  cases f with
  | jpC cc _ | jrC cc _ | callC cc _ | retC cc =>
    have hc : ¬s.cond cc = true := by simpa [Form.notTaken] using hn
    obtain ⟨_, rfl⟩ := (next_of_ite h).resolve_left fun k => hc k.1
    simp [Form.encode, withWord, BitVec.add_assoc]
  | _ => cases hn

/-- A conditional that is not taken neither reads data nor stores. -/
theorem Form.dataReads_storesAt_of_notTaken {f : Form} {s : State} (hn : f.notTaken s = true) :
    f.dataReads s = [] ∧ f.storesAt s = [] := by
  cases f with
  | jpC _ _ | jrC _ _ => exact ⟨rfl, rfl⟩
  | callC cc _ => exact ⟨rfl, if_neg (by simpa [Form.notTaken] using hn)⟩
  | retC cc => exact ⟨if_neg (by simpa [Form.notTaken] using hn), rfl⟩
  | _ => cases hn

theorem State.length_streamReads (s : State) (n : Nat) : (s.streamReads n).length = n := by
  simp [State.streamReads, State.readsOf, State.streamAddrs]

theorem State.streamReads_prefix (s : State) (n : Nat) (as : List Word) (xs : List Access) :
    s.streamReads n <+: s.readsOf (s.streamAddrs n ++ as) ++ xs :=
  ⟨(s.bus.afterAll (s.streamReads n)).readsOf s.mem as ++ xs, by
    rw [State.readsOf, Bus.readsOf_append, List.append_assoc]
    rfl⟩

/-- Settles O12: the accesses of a step begin with its form's stream reads, and its handler ends behind its operand. -/
theorem stepConsumesItsInstruction : Obligations.StepConsumesItsInstruction := by
  intro s t h
  obtain ⟨writes, _, hat, hacc⟩ := step_accesses h
  obtain ⟨_, hpc, _⟩ := s.fetched_fetchOperand
  rw [step, exec_eq_execForm] at h
  have hne := s.fetchInstr_form_ne_prefixCB
  simp only [encode]
  generalize s.fetchInstr.form = f at *
  have htaken (hn : f.notTaken s = false) : f.streamLength s = f.encode.length := if_neg (by simp [hn])
  have hskip (hn : f.notTaken s = true) : f.streamLength s = 1 := if_pos hn
  refine ⟨fun hn => ?_, fun hn => ?_, fun hb => ?_⟩
  · rw [htaken hn] at hacc
    have hpre := s.streamReads_prefix f.encode.length (f.dataReads s) writes
    rw [← hacc, List.prefix_iff_eq_take, State.length_streamReads] at hpre
    exact hpre.symm
  · obtain ⟨hreads, hstores⟩ := Form.dataReads_storesAt_of_notTaken hn
    rw [hstores, List.map_eq_nil_iff] at hat
    rw [hacc, hskip hn, hreads, hat, List.append_nil, List.append_nil]
    rfl
  · cases hn : f.notTaken s with
    | true =>
      have hn' : f.notTaken s.handlerEntry = true := (Form.notTaken_handlerEntry f s).trans hn
      have hend := execForm_pc_of_notTaken hn' h
      rw [hskip hn, State.fetchOperand_notTaken hn'] at hpc
      rw [hpc] at hend
      bv_omega
    | false =>
      have hb' : f.branches = false := by simpa [hn] using hb
      rw [execForm_pc hne hb' h, hpc, htaken hn]

/-! Conditions (40_step_dispatch.md R120). -/

/-- A form that goes one of two ways by its condition, neither of which writes `F`. -/
theorem exec_conditional {f : Form} {cc : Cond} {s taken skipped : State}
    (h : execForm f s = if s.cond cc then .next taken else .next skipped) (ht : taken.f = s.f) (hs : skipped.f = s.f) :
    ∃ t, exec f.instr s = .next t ∧ t.f = s.f ∧ (s.cond cc = true → t.pc = taken.pc) := by
  rw [exec_instr, h]
  by_cases hc : s.cond cc = true
  · exact ⟨taken, if_pos hc, ht, fun _ => rfl⟩
  · exact ⟨skipped, if_neg hc, hs, fun hc' => absurd hc' hc⟩

/-- Settles O25: a condition reads one bit of `F`; each conditional form leaves `F`, and taken it ends at its target. -/
theorem conditionTestsTheFlags : Obligations.ConditionTestsTheFlags := by
  intro s
  refine ⟨iff_of_eq (Bool.not_eq_true' _), Iff.rfl, iff_of_eq (Bool.not_eq_true' _), Iff.rfl,
    fun cc => ⟨fun a16 => ?_, fun r8 => ?_, fun a16 => ?_, ?_⟩⟩
  · exact exec_conditional (f := .jpC cc a16) rfl (by simp) (by simp)
  · exact exec_conditional (f := .jrC cc r8) rfl (by simp) (by simp)
  · exact exec_conditional (f := .callC cc a16) rfl (by simp) (by simp)
  · exact exec_conditional (f := .retC cc) rfl (by simp) (by simp)

end Sys2Proof.Machine

/-! PROOFS of the family 41_loads.md. First the rest of the frame of every form (the interrupt enable and the strobe),
then what is common to the loads and stores; each statement adds the value moved and the accesses issued. -/
namespace Sys2Proof.Machine

/-! The interrupt enable and the strobe (40_step_dispatch.md R115; 10_state.md R29). -/

@[simp] theorem State.accFetch_ime (s : State) (m : AccMode) : (s.accFetch m).ime = s.ime := by rw [State.accFetch_eq]
@[simp] theorem State.accFetch_unusedWarn (s : State) (m : AccMode) : (s.accFetch m).unusedWarn = s.unusedWarn := by
  rw [State.accFetch_eq]
@[simp] theorem State.accPost_ime (s : State) (m : AccMode) : (s.accPost m).ime = s.ime := by
  rw [State.accPost_eq, State.setHL_ime]
@[simp] theorem State.accPost_unusedWarn (s : State) (m : AccMode) : (s.accPost m).unusedWarn = s.unusedWarn := by
  rw [State.accPost_eq, State.setHL_unusedWarn]
@[simp] theorem State.readOpnd_snd_ime (s : State) (o : Opnd8) : (s.readOpnd o).2.ime = s.ime := by cases o <;> rfl
@[simp] theorem State.readOpnd_snd_unusedWarn (s : State) (o : Opnd8) :
    (s.readOpnd o).2.unusedWarn = s.unusedWarn := by cases o <;> rfl
@[simp] theorem State.writeOpnd_ime (s : State) (o : Opnd8) (v : Byte) : (s.writeOpnd o v).ime = s.ime := by
  cases o <;> simp [State.writeOpnd]
@[simp] theorem State.writeOpnd_unusedWarn (s : State) (o : Opnd8) (v : Byte) :
    (s.writeOpnd o v).unusedWarn = s.unusedWarn := by cases o <;> simp [State.writeOpnd]
@[simp] theorem State.setR16s_ime (s : State) (rr : StackPair) (w : Word) : (s.setR16s rr w).ime = s.ime := by
  cases rr <;> rfl
@[simp] theorem State.setR16s_unusedWarn (s : State) (rr : StackPair) (w : Word) :
    (s.setR16s rr w).unusedWarn = s.unusedWarn := by cases rr <;> rfl
@[simp] theorem State.pop16_snd_ime (s : State) : s.pop16.2.ime = s.ime := by rw [State.pop16_state]
@[simp] theorem State.pop16_snd_unusedWarn (s : State) : s.pop16.2.unusedWarn = s.unusedWarn := by
  rw [State.pop16_state]
@[simp] theorem State.branchRel_ime (s : State) (b : Byte) : (s.branchRel b).ime = s.ime := by rw [State.branchRel_eq]
@[simp] theorem State.branchRel_unusedWarn (s : State) (b : Byte) : (s.branchRel b).unusedWarn = s.unusedWarn := by
  rw [State.branchRel_eq]
@[simp] theorem State.callFrom_ime (s : State) (a16 : Word) : (s.callFrom a16).ime = s.ime := by rw [State.callFrom_eq]
@[simp] theorem State.callFrom_unusedWarn (s : State) (a16 : Word) : (s.callFrom a16).unusedWarn = s.unusedWarn := by
  rw [State.callFrom_eq]
@[simp] theorem State.popPC_ime (s : State) : s.popPC.ime = s.ime := by rw [State.popPC_eq]
@[simp] theorem State.popPC_unusedWarn (s : State) : s.popPC.unusedWarn = s.unusedWarn := by rw [State.popPC_eq]

/-- Every form but `EI`, `DI` and `RETI` leaves the interrupt enable. -/
theorem execForm_ime {f : Form} {s t : State} (hf : ∀ o, f ≠ .prefixCB o) (hi : f ∉ [Form.ei, .di, .reti])
    (h : execForm f s = .next t) : t.ime = s.ime := by
  cases f with
  | prefixCB o => exact absurd rfl (hf o)
  | ei | di | reti => exact absurd (by simp) hi
  | inc8 o | dec8 o | alu _ o => cases o <;> cases h <;> simp
  | jpC cc _ | jrC cc _ | callC cc _ | retC cc =>
    obtain ⟨_, rfl⟩ | ⟨_, rfl⟩ := next_of_ite h
    · simp
    · simp
  | unused _ => cases h; rfl
  | _ => cases h; simp

/-- Every form but the unused opcodes leaves the strobe. -/
theorem execForm_unusedWarn {f : Form} {s t : State} (hf : ∀ o, f ≠ .prefixCB o) (hu : ∀ u, f ≠ .unused u)
    (h : execForm f s = .next t) : t.unusedWarn = s.unusedWarn := by
  cases f with
  | prefixCB o => exact absurd rfl (hf o)
  | unused u => exact absurd rfl (hu u)
  | inc8 o | dec8 o | alu _ o => cases o <;> cases h <;> simp
  | jpC cc _ | jrC cc _ | callC cc _ | retC cc =>
    obtain ⟨_, rfl⟩ | ⟨_, rfl⟩ := next_of_ite h
    · simp
    · simp
  | _ => cases h; simp

/-- The frame of every form, by what the form writes and stores. -/
theorem execForm_frame {f : Form} {s t : State} (hf : ∀ o, f ≠ .prefixCB o) (hp : f ≠ .pop .AF)
    (hu : ∀ u, f ≠ .unused u) (h : execForm f s = .next t) :
    Frame f.regsWritten f.flagsWritten (f.storesAt s) s t :=
  ⟨execForm_keepsRegs hf h, execForm_keepsFlags hf hp h, (execForm_writesAt hf h).keepsMemory,
    execForm_bus_map hf h, execForm_unusedWarn hf hu h⟩

/-- `PC` behind the operand, the form's cost, and the accesses issued. -/
theorem execForm_ends {f : Form} {s t : State} {xs : List Access} (hf : ∀ o, f ≠ .prefixCB o)
    (hb : f.branches = false) (h : execForm f s = .next t) (hx : Issues s t xs) :
    Ends s t (s.fetchOperand f).pc (f.cost s) xs :=
  ⟨execForm_pc hf hb h, execForm_reports hf h, hx⟩

end Sys2Proof.Machine

namespace Sys2Proof

/-! The loads and stores by their form. -/

/-- The forms of 41_loads.md. -/
def Form.isLoad : Form → Bool
  | .ldRR _ _ | .ldRI _ _ | .ldMI _ | .ldPI _ _ | .ldRM _ | .ldMR _ | .stAcc _ | .ldAcc _ | .stSP _ | .ldHLSP => true
  | _ => false

theorem Form.ne_prefixCB_of_isLoad {f : Form} (hl : f.isLoad = true) (o : Byte) : f ≠ .prefixCB o := by
  rintro rfl
  cases hl

/-- No load changes a flag or sets `PC` itself. -/
theorem Form.flagsWritten_branches_of_isLoad {f : Form} (hl : f.isLoad = true) :
    f.flagsWritten = [] ∧ f.branches = false := by
  cases f with
  | ldRR _ _ | ldRI _ _ | ldMI _ | ldPI _ _ | ldRM _ | ldMR _ | stAcc _ | ldAcc _ | stSP _ | ldHLSP =>
    exact ⟨rfl, rfl⟩
  | _ => cases hl

/-- No addressing mode has `A` as its base register. -/
theorem AccMode.not_mem_regs_A (m : AccMode) : Reg8.A ∉ m.regs := by cases m <;> simp [AccMode.regs]

end Sys2Proof

namespace Sys2Proof.Machine

/-- A load or store changes the registers and the bytes its form names and no flag, and ends behind its operand. -/
theorem execForm_load {f : Form} {s t : State} {xs : List Access} (hl : f.isLoad = true)
    (h : execForm f s = .next t) (hx : Issues s t xs) :
    t.ime = s.ime ∧ Frame f.regsWritten [] (f.storesAt s) s t ∧ Ends s t (s.fetchOperand f).pc (f.cost s) xs := by
  have hf := Form.ne_prefixCB_of_isLoad hl
  have hp : f ≠ .pop .AF := by rintro rfl; cases hl
  have hu : ∀ u, f ≠ .unused u := by rintro u rfl; cases hl
  have hi : f ∉ [Form.ei, .di, .reti] := by
    intro hm
    fin_cases hm <;> cases hl
  obtain ⟨hw, hb⟩ := Form.flagsWritten_branches_of_isLoad hl
  exact ⟨execForm_ime hf hi h, hw ▸ execForm_frame hf hp hu h, execForm_ends hf hb h hx⟩

/-- The same of a load or store that does not write `SP`. -/
theorem execForm_load_keepsSP {f : Form} {s t : State} {xs : List Access} (hl : f.isLoad = true)
    (hsp : f.writesSP = false) (h : execForm f s = .next t) (hx : Issues s t xs) :
    Frame f.regsWritten [] (f.storesAt s) s t ∧ KeepsSystem s t ∧ Ends s t (s.fetchOperand f).pc (f.cost s) xs := by
  obtain ⟨hime, hframe, hends⟩ := execForm_load hl h hx
  exact ⟨hframe, ⟨execForm_sp (Form.ne_prefixCB_of_isLoad hl) hsp h, hime⟩, hends⟩

/-! The addressing modes of the accumulator loads and stores (41_loads.md, the effective-address summary). -/

@[simp] theorem State.accFetch_pc (s : State) (m : AccMode) : (s.accFetch m).pc = s.accNext m := by
  rw [State.accFetch_eq]
@[simp] theorem State.accFetch_hl (s : State) (m : AccMode) : (s.accFetch m).hl = s.hl := by
  rw [State.accFetch_eq]
  rfl
@[simp] theorem State.accFetch_accesses (s : State) (m : AccMode) :
    (s.accFetch m).accesses = s.accesses ++ s.accReads m := by rw [State.accFetch_eq]
@[simp] theorem State.accFetch_bus (s : State) (m : AccMode) :
    (s.accFetch m).bus = s.bus.afterAll (s.accReads m) := by rw [State.accFetch_eq]

/-- The operand bytes having been read, the bus answers as after their reads. -/
@[simp] theorem State.accFetch_answer (s : State) (m : AccMode) (a : Word) :
    (s.accFetch m).answer a = s.answerAfter (s.accReads m) a := by
  rw [State.accFetch_eq]
  rfl

/-- `HL` after the base-register update, seen from a state with the same `HL`. -/
theorem State.accPost_hl {s u : State} (m : AccMode) (h : u.hl = s.hl) : (u.accPost m).hl = s.accHL m := by
  rw [State.accPost_eq, State.setHL_hl]
  cases m <;> simp only [State.accHL, h]

/-- Settles O30: a pair view is its high byte times 256 plus its low byte, and the high page begins at `0xFF00`. -/
theorem effectiveAddresses : Obligations.EffectiveAddresses := by
  intro s m
  cases m with
  | atBC | atDE | atHLinc | atHLdec => exact mkWord_toNat _ _
  | atA16 a16 => rfl
  | highA8 a8 => exact highPage_toNat a8
  | highC => exact highPage_toNat s.c

/-- Settles O34: one write at `HL`. -/
theorem storeAtHL : Obligations.StoreAtHL := by
  intro s hwf
  refine ⟨fun r => ⟨_, exec_instr (.ldMR r) s, ?_, execForm_load_keepsSP (f := .ldMR r) rfl rfl rfl ⟨rfl, rfl⟩⟩,
    fun d8 => ⟨_, rfl, ?_, execForm_load_keepsSP (f := .ldMI d8) rfl rfl rfl ⟨by simp, by simp⟩⟩⟩
  · exact .congr (State.clk_mem _ _) (.of_writeByte s s s.hl _ hwf rfl rfl)
  · exact .congr (State.clk_mem _ _) (.of_writeByte s (s.operand8 d8) s.hl d8 hwf (by simp) (by simp))

/-- Settles O35: one write, by a state in which the operand bytes have been fetched, then the base-register update. -/
theorem storeAccumulator : Obligations.StoreAccumulator := by
  intro m s hwf
  have hstored : Stored s ((s.accFetch m).writeByte (s.accAddr m) s.a) (s.accAddr m) s.a :=
    .of_writeByte s (s.accFetch m) _ _ hwf (by simp) (by simp)
  refine ⟨_, exec_instr (.stAcc m) s, .congr (by simp) hstored, State.accPost_hl m (by simp), ?_⟩
  rw [← State.accFetch_pc]
  exact execForm_load_keepsSP (f := .stAcc m) rfl rfl rfl ⟨by simp, by simp⟩

/-- Settles O37: one little-endian word written, by a state in which the address has been fetched. -/
theorem storeStackPointer : Obligations.StoreStackPointer := by
  intro a16 s hwf
  have hstored : StoredWord s ((s.operand16 a16).writeWord a16 s.sp) a16 s.sp :=
    .of_writeWord s (s.operand16 a16) a16 s.sp hwf (by simp) (by simp)
  refine ⟨_, rfl, .congr (State.clk_mem _ _) hstored, ?_⟩
  exact execForm_load_keepsSP (f := .stSP a16) rfl rfl rfl
    ⟨by simp [State.writeWord, wordReads, wordWrites], by simp [State.writeWord, wordReads, wordWrites]⟩

/-- Settles O31: one write of a register, of a register's value or of the byte read at `HL`. -/
theorem loadRegisterFromRegisterOrHL : Obligations.LoadRegisterFromRegisterOrHL := by
  intro d s
  refine ⟨fun r => ⟨_, exec_instr (.ldRR d r) s, ?_, execForm_load_keepsSP (f := .ldRR d r) rfl rfl rfl ?_⟩,
    ⟨_, exec_instr (.ldRM d) s, ?_, execForm_load_keepsSP (f := .ldRM d) rfl rfl rfl ?_⟩⟩
  · exact State.setR8_r8_same s d (s.r8 r)
  · exact ⟨by simp, by simp⟩
  · exact State.setR8_r8_same _ d (s.answer s.hl)
  · exact ⟨by simp, by simp⟩

/-- Settles O32: one write of a register, by a state in which the immediate has been fetched. -/
theorem loadRegisterImmediate : Obligations.LoadRegisterImmediate := by
  intro d d8 s
  exact ⟨_, exec_instr (.ldRI d d8) s, State.setR8_r8_same _ d d8,
    execForm_load_keepsSP (f := .ldRI d d8) rfl rfl rfl ⟨by simp, by simp⟩⟩

/-- Settles O33: one write of a pair, which is `SP` only when the form says so. -/
theorem loadPairImmediate : Obligations.LoadPairImmediate := by
  intro rr d16 s
  refine ⟨_, exec_instr (.ldPI rr d16) s, State.setR16_r16_same _ rr d16, fun hrr => ?_,
    execForm_load (f := .ldPI rr d16) rfl rfl ⟨by simp [wordReads], by simp [wordReads]⟩⟩
  exact State.setR16_sp (s.operand16 d16) rr d16 hrr

/-- Settles O36: one read, in a state in which the operand bytes have been fetched, then the base-register update. -/
theorem loadAccumulator : Obligations.LoadAccumulator := by
  intro m s
  refine ⟨_, exec_instr (.ldAcc m) s, ?_, State.accPost_hl m (by simp), ?_⟩
  · exact (State.accPost_r8_other _ m .A m.not_mem_regs_A).trans (s.accFetch_answer m (s.accAddr m))
  · rw [← State.accFetch_pc]
    exact execForm_load_keepsSP (f := .ldAcc m) rfl rfl rfl ⟨by simp, by simp⟩

/-- Settles O38: the source's direction of opcode 0xF9 is one write of `HL`. -/
theorem copyStackPointerToHL : Obligations.CopyStackPointerToHL := by
  intro s
  exact ⟨_, rfl, State.setHL_hl s s.sp, execForm_load_keepsSP (f := .ldHLSP) rfl rfl rfl ⟨by simp, by simp⟩⟩

end Sys2Proof.Machine

/-! PROOFS of the family 42_alu8.md. First the frame of the plain forms and what a write of an `r` operand
leaves; then each operation on numbers, with the statement it settles. -/
namespace Sys2Proof

/-- The forms that leave `SP`, the interrupt enable and the strobe, and set `PC` only by fetching their operand. -/
def Form.isPlain (f : Form) : Bool :=
  match f with
  | .ei | .di | .unused _ | .prefixCB _ => false
  | _ => !f.branches && !f.writesSP

theorem Form.branches_writesSP_of_isPlain {f : Form} (hp : f.isPlain = true) :
    f.branches = false ∧ f.writesSP = false := by
  cases f with
  | ei | di | unused _ | prefixCB _ => cases hp
  | _ => simpa [Form.isPlain] using hp

end Sys2Proof

namespace Sys2Proof.Machine

/-- A plain form changes what it names and nothing else, and ends behind its operand. -/
theorem execForm_plain {f : Form} {s t : State} {xs : List Access} (hplain : f.isPlain = true)
    (h : execForm f s = .next t) (hx : Issues s t xs) :
    Frame f.regsWritten f.flagsWritten (f.storesAt s) s t ∧ KeepsSystem s t ∧
      Ends s t (s.fetchOperand f).pc (f.cost s) xs := by
  obtain ⟨hb, hsp⟩ := Form.branches_writesSP_of_isPlain hplain
  have hf : ∀ o, f ≠ .prefixCB o := by rintro o rfl; cases hplain
  have hu : ∀ u, f ≠ .unused u := by rintro u rfl; cases hplain
  have hpop : f ≠ .pop .AF := by rintro rfl; cases hplain
  have hi : f ∉ [Form.ei, .di, .reti] := by
    intro hm
    fin_cases hm <;> cases hplain
  exact ⟨execForm_frame hf hpop hu h, ⟨execForm_sp hf hsp h, execForm_ime hf hi h⟩, execForm_ends hf hb h hx⟩

/-! The `r` operand, read and written (30_encoding.md R83). -/

@[simp] theorem State.readOpnd_fst (s : State) (o : Opnd8) : (s.readOpnd o).1 = s.opnd o := by cases o <;> rfl
@[simp] theorem State.readOpnd_snd_flag (s : State) (o : Opnd8) (fl : Flag) : (s.readOpnd o).2.flag fl = s.flag fl := by
  cases o <;> rfl
@[simp] theorem State.writeOpnd_flag (s : State) (o : Opnd8) (v : Byte) (fl : Flag) :
    (s.writeOpnd o v).flag fl = s.flag fl := by
  cases o with
  | reg r => exact s.setR8_flag r v fl
  | atHL => rfl

theorem Issues.readOpnd (s : State) (o : Opnd8) : Issues s (s.readOpnd o).2 (s.opndReads o) := by
  cases o <;> simp [Issues, State.readOpnd, State.opndReads]

theorem Issues.congr {s t u : State} {xs : List Access} (ha : u.accesses = t.accesses) (hb : u.bus = t.bus)
    (k : Issues s t xs) : Issues s u xs := ⟨ha.trans k.1, hb.trans k.2⟩

/-- An operand read and then written: the read, then the write. -/
theorem Issues.readOpnd_writeOpnd (s : State) (o : Opnd8) (v : Byte) :
    Issues s ((s.readOpnd o).2.writeOpnd o v) (s.opndReads o ++ s.opndWrites o v) := by
  cases o <;> simp [Issues, State.readOpnd, State.writeOpnd, State.opndReads, State.opndWrites]

/-- An operand written after it has been read holds what was written, as far as the bus accepts it. -/
theorem Written.readOpnd_writeOpnd (s : State) (o : Opnd8) (v : Byte) (hwf : Memory.wf s.mem = true) :
    Written s ((s.readOpnd o).2.writeOpnd o v) o v := by
  cases o with
  | reg r => exact s.setR8_r8_same r v
  | atHL => exact .of_writeByte s _ s.hl v hwf rfl (Bus.after_map _ _)

theorem Written.congr {s t u : State} {o : Opnd8} {v : Byte} (hr : ∀ r, u.r8 r = t.r8 r) (hm : u.mem = t.mem)
    (k : Written s t o v) : Written s u o v := by
  cases o with
  | reg r => exact (hr r).trans k
  | atHL => exact Stored.congr hm k

/-! INC and DEC (42_alu8.md R173 to R176). -/

/-- The low nibble on numbers. -/
theorem and_lowMask_toNat (v : Byte) : (v &&& 0x0F#8).toNat = v.toNat % 16 :=
  (BitVec.toNat_and v _).trans (Nat.and_two_pow_sub_one_eq_mod v.toNat 4)

theorem incHalf_eq (v : Byte) : incHalf v = decide (v.toNat % 16 = 15) := by
  rw [incHalf, and_lowMask_toNat, decide_eq_decide]
  omega

theorem decHalf_eq (v : Byte) : decHalf v = decide (v.toNat % 16 = 0) := by
  rw [decHalf, decide_eq_decide, ← BitVec.toNat_inj, and_lowMask_toNat]
  rfl

theorem byte_add_one_eq_zero_iff (v : Byte) : v + 1#8 = 0#8 ↔ v.toNat = 255 := by bv_omega

theorem byte_sub_one_eq_zero_iff (v : Byte) : v - 1#8 = 0#8 ↔ v.toNat = 1 := by bv_omega

theorem byte_sub_one_toNat (v : Byte) : (v - 1#8).toNat = (v.toNat + 255) % 256 := by bv_omega

/-- An operand written back with Z, N and H: the state both `INC` and `DEC` leave. -/
def State.writeBack (s : State) (o : Opnd8) (v : Byte) (z n h : Bool) : State :=
  (((s.readOpnd o).2.writeOpnd o v).setZNH z n h).clk (opndCost 4 12 o)

theorem execForm_inc8 (o : Opnd8) (s : State) :
    execForm (.inc8 o) s =
      .next (s.writeBack o (s.opnd o + 1#8) (decide (s.opnd o + 1#8 = 0#8)) false (incHalf (s.opnd o))) := by
  cases o <;> rfl

theorem execForm_dec8 (o : Opnd8) (s : State) :
    execForm (.dec8 o) s =
      .next (s.writeBack o (s.opnd o - 1#8) (decide (s.opnd o - 1#8 = 0#8)) true (decHalf (s.opnd o))) := by
  cases o <;> rfl

theorem State.writeBack_written (s : State) (o : Opnd8) (v : Byte) (z n h : Bool) (hwf : Memory.wf s.mem = true) :
    Written s (s.writeBack o v z n h) o v :=
  .congr (by simp [State.writeBack]) (by simp [State.writeBack]) (.readOpnd_writeOpnd s o v hwf)

theorem State.writeBack_issues (s : State) (o : Opnd8) (v : Byte) (z n h : Bool) :
    Issues s (s.writeBack o v z n h) (s.opndReads o ++ s.opndWrites o v) :=
  .congr (by simp [State.writeBack]) (by simp [State.writeBack]) (.readOpnd_writeOpnd s o v)

theorem State.writeBack_flags (s : State) (o : Opnd8) (v : Byte) (z n h : Bool) :
    FlagsAre (s.writeBack o v z n h) z n h (s.flag .C) := by
  simp [FlagsAre, State.writeBack, State.setZNH_flag]

theorem Form.cost_inc8 (o : Opnd8) (s : State) : (Form.inc8 o).cost s = opndCost 4 12 o := by cases o <;> rfl
theorem Form.cost_dec8 (o : Opnd8) (s : State) : (Form.dec8 o).cost s = opndCost 4 12 o := by cases o <;> rfl

/-- Settles O39: the operand plus or minus one is written back, and the flags are functions of the operand as a number. -/
theorem incrementAndDecrement8 : Obligations.IncrementAndDecrement8 := by
  intro o s hwf
  have hinc := execForm_inc8 o s
  have hdec := execForm_dec8 o s
  simp only [byte_add_one_eq_zero_iff, incHalf_eq] at hinc
  simp only [byte_sub_one_eq_zero_iff, decHalf_eq] at hdec
  refine ⟨⟨_, _, (exec_instr (.inc8 o) s).trans hinc, BitVec.toNat_add _ _, s.writeBack_written o _ _ _ _ hwf,
    s.writeBack_flags o _ _ _ _, ?_⟩, ⟨_, _, (exec_instr (.dec8 o) s).trans hdec, byte_sub_one_toNat _,
    s.writeBack_written o _ _ _ _ hwf, s.writeBack_flags o _ _ _ _, ?_⟩⟩
  · rw [← Form.cost_inc8 o s]
    exact execForm_plain (f := .inc8 o) rfl hinc (s.writeBack_issues o _ _ _ _)
  · rw [← Form.cost_dec8 o s]
    exact execForm_plain (f := .dec8 o) rfl hdec (s.writeBack_issues o _ _ _ _)

/-! The accumulator operations (42_alu8.md R171, R172, R177 to R200). -/

theorem bitNat_eq (b : Bool) : bitNat b = b.toNat := by cases b <;> rfl

/-- The difference of two bytes and a borrow, taken on integers, is the one taken modulo 256 on numbers. -/
theorem byte_ofInt_sub_toNat (a b : Byte) (cin : Bool) :
    (BitVec.ofInt 8 ((a.toNat : Int) - b.toNat - cin.toNat)).toNat = (a.toNat + 256 - (b.toNat + cin.toNat)) % 256 := by
  have hc := cin.toNat_le
  rw [BitVec.toNat_ofInt]
  omega

/-- `add8` is the sum of `ADC`. -/
theorem add8_claim (a v : Byte) (cin : Bool) :
    AluClaim .adc a v cin (add8 a v cin).res (add8 a v cin).z (add8 a v cin).n (add8 a v cin).h (add8 a v cin).c := by
  simp only [AluClaim, add8, bitNat_eq, and_lowMask_toNat, BitVec.toNat_ofNat, and_self]

/-- `sub8` is the difference of `SBC`. -/
theorem sub8_claim (a v : Byte) (cin : Bool) :
    AluClaim .sbc a v cin (sub8 a v cin).res (sub8 a v cin).z (sub8 a v cin).n (sub8 a v cin).h (sub8 a v cin).c := by
  refine ⟨?_, ?_, rfl, ?_, ?_⟩
  · rw [← byte_ofInt_sub_toNat, sub8, bitNat_eq]
  · exact decide_eq_decide.mpr BitVec.toNat_inj.symm
  · simp only [sub8, bitNat_eq, and_lowMask_toNat]
  · simp only [sub8, bitNat_eq]

/-- `ADD` is `ADC` without a carry, and `SUB` is `SBC` without a borrow. -/
theorem aluClaim_add_iff (a v res : Byte) (cin z n h c : Bool) :
    AluClaim .add a v cin res z n h c ↔ AluClaim .adc a v false res z n h c := Iff.rfl

theorem aluClaim_sub_iff (a v res : Byte) (cin z n h c : Bool) :
    AluClaim .sub a v cin res z n h c ↔ AluClaim .sbc a v false res z n h c := Iff.rfl

/-- `CP` has the flags of `SUB` and leaves the accumulator. -/
theorem aluClaim_cp_of_sub {a v res : Byte} {cin z n h c : Bool} (k : AluClaim .sub a v cin res z n h c) :
    AluClaim .cp a v cin a z n h c := by
  obtain ⟨hres, hz, hn, hh, hc⟩ := k
  refine ⟨rfl, ?_, hn, hh, hc⟩
  rw [hz, decide_eq_decide, ← BitVec.toNat_inj, hres]
  omega

/-- Each accumulator operation leaves what its rule gives on numbers. -/
theorem alu8_claim (op : AluOp) (a v : Byte) (cin : Bool) :
    AluClaim op a v cin (if op = .cp then a else (alu8 op a v cin).res) (alu8 op a v cin).z (alu8 op a v cin).n
      (alu8 op a v cin).h (alu8 op a v cin).c := by
  cases op with
  | add => exact (aluClaim_add_iff ..).mpr (add8_claim a v false)
  | adc => exact add8_claim a v cin
  | sub => exact (aluClaim_sub_iff ..).mpr (sub8_claim a v false)
  | sbc => exact sub8_claim a v cin
  | cp => exact aluClaim_cp_of_sub ((aluClaim_sub_iff (cin := false) ..).mpr (sub8_claim a v false))
  | and | xor | or => exact ⟨rfl, decide_eq_decide.mpr BitVec.toNat_inj.symm, rfl, rfl, rfl⟩

/-- An accumulator operation from a state with the accumulator and the carry flag of `s`. -/
theorem State.aluAcc_claim {s u : State} (op : AluOp) (v : Byte) (ha : u.a = s.a) (hc : u.flag .C = s.flag .C) :
    AluClaim op s.a v (s.flag .C) (u.aluAcc op v).a ((u.aluAcc op v).flag .Z) ((u.aluAcc op v).flag .N)
      ((u.aluAcc op v).flag .H) ((u.aluAcc op v).flag .C) := by
  simp only [State.aluAcc_a, State.aluAcc_flag, ha, hc]
  exact alu8_claim op s.a v (s.flag .C)

theorem execForm_alu (op : AluOp) (o : Opnd8) (s : State) :
    execForm (.alu op o) s = .next (((s.readOpnd o).2.aluAcc op (s.opnd o)).clk (opndCost 4 8 o)) := by
  cases o <;> rfl

theorem Form.cost_alu (op : AluOp) (o : Opnd8) (s : State) : (Form.alu op o).cost s = opndCost 4 8 o := by
  cases o <;> rfl

/-- A frame with more registers named. -/
theorem Frame.mono_regs {regs regs' : List Reg8} {flags : List Flag} {stores : List Word} {s t : State}
    (h : regs ⊆ regs') (k : Frame regs flags stores s t) : Frame regs' flags stores s t :=
  ⟨fun r hr => k.1 r fun hm => hr (h hm), k.2⟩

/-- Settles O40: one accumulator operation, by a state in which the operand has been read. -/
theorem accumulatorArithmeticAndLogic : Obligations.AccumulatorArithmeticAndLogic := by
  intro op s
  have hregs : (if op = .cp then [] else [Reg8.A]) ⊆ [.A] := by split <;> simp
  refine ⟨fun o => ?_, fun d8 => ?_⟩
  · have h := execForm_alu op o s
    obtain ⟨hframe, hsys, hends⟩ := execForm_plain (f := .alu op o) rfl h
      (.congr (by simp) (by simp) (.readOpnd s o))
    rw [Form.regsWritten_alu] at hframe
    rw [Form.cost_alu] at hends
    exact ⟨_, _, _, _, _, (exec_instr (.alu op o) s).trans h,
      State.aluAcc_claim op _ (s.readOpnd_snd_r8 o .A) (s.readOpnd_snd_flag o .C), ⟨rfl, rfl, rfl, rfl⟩,
      hframe.mono_regs hregs, hsys, hends⟩
  · have h : execForm (.aluI op d8) s = .next (((s.operand8 d8).aluAcc op d8).clk 8) := rfl
    obtain ⟨hframe, hsys, hends⟩ := execForm_plain (f := .aluI op d8) (xs := [.read s.pc d8]) rfl h
      ⟨by simp, by simp⟩
    rw [Form.regsWritten_aluI] at hframe
    exact ⟨_, _, _, _, _, (exec_instr (.aluI op d8) s).trans h,
      State.aluAcc_claim op d8 rfl rfl, ⟨rfl, rfl, rfl, rfl⟩, hframe.mono_regs hregs, hsys, hends⟩

/-! DAA (42_alu8.md R201). -/

/-- After a subtraction each adjustment is a difference modulo 256. -/
theorem daaSub_toNat (a : Byte) (h c : Bool) :
    (daaSubHigh (daaSubLow a h) c).toNat =
      (a.toNat + 512 - (if h = true then 6 else 0) - (if c = true then 0x60 else 0)) % 256 := by
  cases h <;> cases c <;> simp only [daaSubHigh, daaSubLow, if_true, if_false, reduceCtorEq] <;> bv_omega

/-- Settles O41: `A` and C are those of `daa8`, and the other flags are written as said. -/
theorem decimalAdjust : Obligations.DecimalAdjust := by
  intro s
  refine ⟨_, rfl, fun hn => ⟨daaAddLow s.a (s.flag .H), _, ?_, rfl, ?_⟩, fun hn => ?_, ?_, ?_,
    execForm_plain (f := .daa) rfl rfl ⟨by simp, rfl⟩⟩
  · simp only [daaAddLow, and_lowMask_toNat]
  · simp [State.setFlag_flag, daa8, hn, daaAddHigh]
  · simp [State.setFlag_flag, daa8, hn, daaSub_toNat]
  · simp [State.setFlag_flag]
  · exact (State.setFlag_flag_same _ .Z _).trans (decide_eq_decide.mpr BitVec.toNat_inj.symm)

/-! Packed decimal (95_test_vectors.md Q14). -/

theorem packedDecimal_toNat {p q : Nat} (hp : p ≤ 9) (hq : q ≤ 9) : (packedDecimal (10 * p + q)).toNat = p * 16 + q := by
  rw [packedDecimal, BitVec.toNat_ofNat]
  omega

/-- A number below 100 is two decimal digits. -/
theorem exists_digits {n : Nat} (h : n < 100) : ∃ p q, p ≤ 9 ∧ q ≤ 9 ∧ n = 10 * p + q :=
  ⟨n / 10, n % 10, by omega, by omega, by omega⟩

/-- `DAA` on what an accumulator operation leaves: the accumulator and the carry. -/
def Alu8.adjusted (r : Alu8) : Byte × Bool := daa8 r.res r.n r.h r.c

/-- A digit of a difference, and its borrow. -/
theorem exists_borrow_digit {m n : Nat} (hm : m ≤ 9) (hn : n ≤ 10) :
    ∃ d e, d ≤ 1 ∧ e ≤ 9 ∧ m + 10 * d = n + e ∧ (m < n ↔ d = 1) := by
  by_cases h : m < n
  · exact ⟨1, m + 10 - n, by omega, by omega, by omega, by omega⟩
  · exact ⟨0, m - n, by omega, by omega, by omega, by omega⟩

/-- `DAA` after an addition of packed decimals: with `d` and `D` the carries out of the low and the high decimal digit, 6 is
added exactly when `d` is 1, and `0x60` exactly when `D` is. -/
theorem add8_packed_adjusted {x y : Nat} (hx : x < 100) (hy : y < 100) (cin : Bool) :
    (add8 (packedDecimal x) (packedDecimal y) cin).adjusted =
      (packedDecimal ((x + y + cin.toNat) % 100), decide (x + y + cin.toNat ≥ 100)) := by
  obtain ⟨p, q, hp, hq, rfl⟩ := exists_digits hx
  obtain ⟨r, w, hr, hw, rfl⟩ := exists_digits hy
  have hcin := cin.toNat_le
  obtain ⟨d, e, _, he, hlo⟩ := exists_digits (show q + w + cin.toNat < 100 by omega)
  obtain ⟨D, E, _, hE, hhi⟩ := exists_digits (show p + r + d < 100 by omega)
  have hsum : 10 * p + q + (10 * r + w) + cin.toNat = 100 * D + (10 * E + e) := by omega
  have hmod : (100 * D + (10 * E + e)) % 100 = 10 * E + e := by omega
  obtain ⟨hres, _, hn, hh, hc⟩ := add8_claim (packedDecimal (10 * p + q)) (packedDecimal (10 * r + w)) cin
  rw [packedDecimal_toNat hp hq, packedDecimal_toNat hr hw] at hres hh hc
  rw [show (p * 16 + q) % 16 = q by omega, show (r * 16 + w) % 16 = w by omega] at hh
  rw [hsum, hmod, Alu8.adjusted, hn]
  generalize add8 _ _ _ = t at *
  generalize hs : p * 16 + q + (r * 16 + w) + cin.toNat = sum at *
  have hlow : daaAddLow t.res t.h + 256 * (sum / 256) = 16 * (p + r + d) + e := by
    simp only [daaAddLow, and_lowMask_toNat, hh, decide_eq_true_eq]
    split_ifs <;> omega
  have hhigh : daaAddHigh (daaAddLow t.res t.h) t.c + 256 * (sum / 256) = 256 * D + (16 * E + e) := by
    simp only [daaAddHigh, hc, decide_eq_true_eq]
    split_ifs <;> omega
  refine Prod.ext (BitVec.eq_of_toNat_eq ?_) ?_
  · rw [packedDecimal_toNat hE he]
    refine (BitVec.toNat_ofNat _ _).trans ?_
    omega
  · rw [hc] at hhigh ⊢
    simp only [daa8, Bool.false_eq_true, if_false, ← Bool.decide_or, decide_eq_decide]
    omega

/-- `DAA` after a subtraction of packed decimals: with `d` and `D` the borrows of the low and the high decimal digit, the
half borrow is `d` and the borrow is `D`. -/
theorem sub8_packed_adjusted {x y : Nat} (hx : x < 100) (hy : y < 100) (cin : Bool) :
    (sub8 (packedDecimal x) (packedDecimal y) cin).adjusted =
      (packedDecimal ((x + 200 - y - cin.toNat) % 100), decide (x < y + cin.toNat)) := by
  obtain ⟨p, q, hp, hq, rfl⟩ := exists_digits hx
  obtain ⟨r, w, hr, hw, rfl⟩ := exists_digits hy
  have hcin := cin.toNat_le
  obtain ⟨d, e, hd, he, hlo, hhalf⟩ := exists_borrow_digit hq (show w + cin.toNat ≤ 10 by omega)
  obtain ⟨D, E, hD, hE, hhi, _⟩ := exists_borrow_digit hp (show r + d ≤ 10 by omega)
  have hdiff : (10 * p + q + 200 - (10 * r + w) - cin.toNat) % 100 = 10 * E + e := by omega
  obtain ⟨hres, _, hn, hh, hc⟩ := sub8_claim (packedDecimal (10 * p + q)) (packedDecimal (10 * r + w)) cin
  rw [packedDecimal_toNat hp hq, packedDecimal_toNat hr hw] at hres hh hc
  rw [show (p * 16 + q) % 16 = q by omega, show (r * 16 + w) % 16 = w by omega] at hh
  rw [hdiff, Alu8.adjusted, hn, hh, hc]
  refine Prod.ext (BitVec.eq_of_toNat_eq ?_) (decide_eq_decide.mpr (by omega))
  rw [packedDecimal_toNat hE he]
  refine (daaSub_toNat _ _ _).trans ?_
  simp only [hres, decide_eq_true_eq]
  split_ifs <;> omega

/-- An accumulator operation on an immediate, then `DAA`. -/
theorem exec_aluI_daa {op : AluOp} (hop : op ≠ .cp) {d8 : Byte} {s : State} {p : Byte × Bool}
    (h : (alu8 op s.a d8 (s.flag .C)).adjusted = p) :
    ∃ t u, exec (Instr.aluIOf op d8) s = .next t ∧ exec .daa t = .next u ∧ u.a = p.1 ∧ u.flag .C = p.2 := by
  refine ⟨_, _, exec_instr (.aluI op d8) s, rfl, ?_⟩
  simp [← h, Alu8.adjusted, State.setFlag_flag, State.aluAcc_a, State.aluAcc_flag, hop]

/-- Settles O42: `DAA` turns the binary result into the packed decimal one; `ADD` and `SUB` are `ADC` and `SBC` with no
carry. -/
theorem packedDecimalSumsAndDifferences : Obligations.PackedDecimalSumsAndDifferences := by
  intro x y s hx hy ha
  have hadjusted {op : AluOp} {p : Byte × Bool}
      (h : (alu8 op (packedDecimal x) (packedDecimal y) (s.flag .C)).adjusted = p) :
      (alu8 op s.a (packedDecimal y) (s.flag .C)).adjusted = p := by rwa [ha]
  have hsub := sub8_packed_adjusted hx hy false
  rw [show (x + 200 - y - false.toNat) % 100 = (x + 100 - y) % 100 by rw [Bool.toNat_false]; omega] at hsub
  exact ⟨exec_aluI_daa (op := .adc) (by decide) (hadjusted (add8_packed_adjusted hx hy _)),
    exec_aluI_daa (op := .add) (by decide) (hadjusted (add8_packed_adjusted hx hy false)),
    exec_aluI_daa (op := .sbc) (by decide) (hadjusted (sub8_packed_adjusted hx hy _)),
    exec_aluI_daa (op := .sub) (by decide) (hadjusted hsub)⟩

/-! CPL, SCF, CCF (42_alu8.md R202 to R204) and the accumulator rotates (R205 to R208). -/

/-- Settles O43: one write of `A` and two flags, or one write of three flags. -/
theorem complementAndCarryFlag : Obligations.ComplementAndCarryFlag := by
  intro s
  refine ⟨⟨_, rfl, BitVec.toNat_not, ?_, execForm_plain (f := .cpl) rfl rfl ⟨by simp, rfl⟩⟩,
    ⟨_, rfl, ?_, execForm_plain (f := .scf) rfl rfl ⟨by simp, rfl⟩⟩,
    ⟨_, rfl, ?_, execForm_plain (f := .ccf) rfl rfl ⟨by simp, rfl⟩⟩⟩
  · simp [FlagsAre, State.setFlag_flag]
  · simp [FlagsAre, State.setNHC_flag]
  · simp [FlagsAre, State.setNHC_flag]

/-- Each rotate and shift leaves what its rule gives on numbers (46_extended_cb.md R282 to R289), byte by byte; only `rl` and
`rr` look at the incoming carry. -/
theorem rotate8_claim (op : RotOp) (v : Byte) (cin : Bool) :
    RotClaim op v cin (rotate8 op v cin).1 (rotate8 op v cin).2 := by
  revert v
  cases op with
  | rl | rr => cases cin <;> simp only [RotClaim, rotate8] <;> decide
  | rlc | rrc | sla | sra | swap | srl => simp only [RotClaim, rotate8]; decide

/-- A form that rotates `A`: one write of `A` and of all four flags. -/
theorem exec_rotAcc {f : Form} {op : RotOp} (s : State) (hplain : f.isPlain = true)
    (h : execForm f s = rotAcc op s) :
    ∃ t, exec f.instr s = .next t ∧ RotClaim op s.a (s.flag .C) (t.r8 .A) (t.flag .C) ∧
      FlagsAre t false false false (t.flag .C) ∧ Frame f.regsWritten f.flagsWritten (f.storesAt s) s t ∧
      KeepsSystem s t ∧ Ends s t (s.fetchOperand f).pc (f.cost s) [] := by
  refine ⟨_, (exec_instr f s).trans h, ?_, ?_, execForm_plain hplain h ⟨by simp, rfl⟩⟩
  · simpa [State.setFlags_flag, State.r8] using rotate8_claim op s.a (s.flag .C)
  · simp [FlagsAre, State.setFlags_flag]

/-- Settles O44: the four forms that rotate `A`. -/
theorem accumulatorRotates : Obligations.AccumulatorRotates := by
  intro s p hp
  fin_cases hp
  · exact exec_rotAcc (f := .rlca) s rfl rfl
  · exact exec_rotAcc (f := .rla) s rfl rfl
  · exact exec_rotAcc (f := .rrca) s rfl rfl
  · exact exec_rotAcc (f := .rra) s rfl rfl

end Sys2Proof.Machine

/-! PROOFS of the family 43_alu16.md. First the frame of the straight forms, which may write `SP`; then each sum on
numbers, with the statements it settles. -/
namespace Sys2Proof

/-- The forms that leave the interrupt enable, the strobe and the low nibble of `F`, and set `PC` only by fetching their
operand; unlike a plain form, they may write `SP`. -/
def Form.isStraight (f : Form) : Bool :=
  match f with
  | .ei | .di | .unused _ | .prefixCB _ | .pop .AF => false
  | _ => !f.branches

theorem Form.branches_of_isStraight {f : Form} (hs : f.isStraight = true) : f.branches = false := by
  cases f with
  | ei | di | unused _ | prefixCB _ => cases hs
  | pop rr => rfl
  | _ => simpa [Form.isStraight] using hs

end Sys2Proof

namespace Sys2Proof.Machine

/-- A straight form changes what it names and, it may be, `SP`, and ends behind its operand. -/
theorem execForm_straight {f : Form} {s t : State} {xs : List Access} (hs : f.isStraight = true)
    (h : execForm f s = .next t) (hx : Issues s t xs) :
    t.ime = s.ime ∧ Frame f.regsWritten f.flagsWritten (f.storesAt s) s t ∧
      Ends s t (s.fetchOperand f).pc (f.cost s) xs := by
  have hf : ∀ o, f ≠ .prefixCB o := by rintro o rfl; cases hs
  have hu : ∀ u, f ≠ .unused u := by rintro u rfl; cases hs
  have hpop : f ≠ .pop .AF := by rintro rfl; cases hs
  have hi : f ∉ [Form.ei, .di, .reti] := by
    intro hm
    fin_cases hm <;> cases hs
  exact ⟨execForm_ime hf hi h, execForm_frame hf hpop hu h, execForm_ends hf (Form.branches_of_isStraight hs) h hx⟩

/-! The displacement sum (43_alu16.md R210). -/

/-- The low `k` bits of a word on numbers. -/
theorem word_and_mask_toNat (v : Word) (k : Nat) (hk : k ≤ 16) :
    (v &&& BitVec.ofNat 16 (2 ^ k - 1)).toNat = v.toNat % 2 ^ k := by
  have hpow : 2 ^ k ≤ 2 ^ 16 := Nat.pow_le_pow_right (by decide) hk
  rw [BitVec.toNat_and, BitVec.toNat_ofNat, Nat.mod_eq_of_lt (by omega), Nat.and_two_pow_sub_one_eq_mod]

/-- A sum of two words is their sum on integers, modulo 65536. -/
theorem word_add_toNat_eq_toInt (v w : Word) : ((v + w).toNat : Int) = ((v.toNat : Int) + w.toInt) % 65536 := by
  rw [BitVec.toNat_add, BitVec.toInt_eq_toNat_cond]
  split <;> omega

theorem spdisp_res_toNat (sp : Word) (e : Byte) :
    ((spdisp sp e).res.toNat : Int) = ((sp.toNat : Int) + e.toInt) % 65536 := by
  rw [← sext16_toInt]
  exact word_add_toNat_eq_toInt sp (sext16 e)

theorem spdisp_h (sp : Word) (e : Byte) : (spdisp sp e).h = decide (sp.toNat % 16 + e.toNat % 16 > 15) := by
  have hsp : (sp &&& 0x0F#16).toNat = sp.toNat % 16 := word_and_mask_toNat sp 4 (by decide)
  rw [← hsp, ← and_lowMask_toNat, spdisp]

theorem spdisp_c (sp : Word) (e : Byte) : (spdisp sp e).c = decide (sp.toNat % 256 + e.toNat > 255) := by
  have hsp : (sp &&& 0xFF#16).toNat = sp.toNat % 256 := word_and_mask_toNat sp 8 (by decide)
  rw [← hsp, spdisp]

/-- A negative byte is its number less 256, so the carry of the unsigned sum is the absence of a borrow. -/
theorem carry_iff_no_borrow {n : Nat} {e : Byte} (he : e.toInt < 0) :
    n + e.toNat > 255 ↔ 0 ≤ (n : Int) + e.toInt := by
  have hneg : e.toInt = (e.toNat : Int) - 256 := by
    rw [BitVec.toInt_eq_toNat_cond] at he ⊢
    split at he <;> omega
  omega

/-- Settles O45: the sign-extended byte has the byte's own integer value, and the two masks are remainders. -/
theorem stackPointerDisplacementSum : Obligations.StackPointerDisplacementSum := by
  intro sp e
  refine ⟨spdisp_res_toNat sp e, spdisp_h sp e, spdisp_c sp e, fun he => ?_⟩
  rw [spdisp_c, decide_eq_true_iff]
  exact carry_iff_no_borrow he

/-- Settles O46: one read of the displacement, then one write of `HL` or of `SP`, and of the four flags. -/
theorem stackPointerPlusDisplacement : Obligations.StackPointerPlusDisplacement := by
  intro r8 s
  have hload : execForm (.ldHLSPr8 r8) s = loadHLSPDisp r8 s := rfl
  have hadd : execForm (.addSPr8 r8) s = addSPDisp r8 s := rfl
  obtain ⟨hime, hframe, hends⟩ := execForm_straight (xs := [.read s.pc r8]) rfl hadd ⟨by simp, by simp⟩
  refine ⟨⟨_, (exec_instr (.ldHLSPr8 r8) s).trans hload, ?_, ?_, execForm_plain rfl hload ⟨by simp, by simp⟩⟩,
    _, (exec_instr (.addSPr8 r8) s).trans hadd, rfl, hime, ?_, hframe, hends⟩
  · rw [State.clk_hl, State.setFlags_hl, State.setHL_hl]
  · simp [FlagsAre, State.setFlags_flag]
  · simp [FlagsAre, State.setFlags_flag]

/-! INC and DEC of a pair (43_alu16.md R213, R214). -/

theorem word_sub_one_toNat (w : Word) : (w - 1#16).toNat = (w.toNat + 65535) % 65536 := by bv_omega

/-- A form that is one write of a pair: the pair holds the word, and `SP` changes only if it is the pair. -/
theorem exec_pairWrite {f : Form} {rr : Pair} {w : Word} {s : State} (hs : f.isStraight = true)
    (h : execForm f s = .next ((s.setR16 rr w).clk 8)) :
    ∃ t, exec f.instr s = .next t ∧ t.r16 rr = w ∧ (rr ≠ .SP → t.sp = s.sp) ∧ t.ime = s.ime ∧
      Frame f.regsWritten f.flagsWritten (f.storesAt s) s t ∧ Ends s t (s.fetchOperand f).pc (f.cost s) [] :=
  ⟨_, (exec_instr f s).trans h, State.setR16_r16_same s rr w, s.setR16_sp rr w,
    execForm_straight hs h ⟨by simp, by simp⟩⟩

/-- Settles O47: one write of the pair, of its value plus or minus one. -/
theorem incrementAndDecrement16 : Obligations.IncrementAndDecrement16 := by
  intro rr s
  obtain ⟨t, hinc, htw, ht⟩ := exec_pairWrite (f := .inc16 rr) (s := s) rfl rfl
  obtain ⟨u, hdec, huw, hu⟩ := exec_pairWrite (f := .dec16 rr) (s := s) rfl rfl
  exact ⟨⟨t, hinc, htw ▸ BitVec.toNat_add _ _, ht⟩, ⟨u, hdec, huw ▸ word_sub_one_toNat _, hu⟩⟩

/-! ADD HL,rr (43_alu16.md R215). -/

theorem add16_h (a b : Word) : (add16 a b).h = decide (a.toNat % 4096 + b.toNat % 4096 > 4095) := by
  have hmask (v : Word) : (v &&& 0x0FFF#16).toNat = v.toNat % 4096 := word_and_mask_toNat v 12 (by decide)
  rw [← hmask, ← hmask, add16]

/-- Settles O48: one write of `HL` and of three flags, both operands having been read. -/
theorem addToHL : Obligations.AddToHL := by
  intro rr s
  refine ⟨_, exec_instr (.addHL rr) s, ?_, ?_, execForm_plain (f := .addHL rr) rfl rfl ⟨by simp, by simp⟩⟩
  · exact (congrArg BitVec.toNat (State.setHL_hl s _)).trans (BitVec.toNat_ofNat _ _)
  · rw [← add16_h]
    simp [FlagsAre, State.setNHC_flag, add16]

end Sys2Proof.Machine

/-! PROOFS of the family 44_stack_control.md. First the two states a control transfer can lead to, one that leaves memory
and one that pushes a word; then the forms that lead to them, with the statements they settle. -/
namespace Sys2Proof.Machine

/-! Transfers that leave memory (44_stack_control.md R232 to R236, R239, R240). -/

/-- `PC` and `SP` set, a cost reported and some accesses issued. -/
def State.transfer (s : State) (pc sp : Word) (cost : Nat) (xs : List Access) : State :=
  { s with pc := pc, sp := sp, lastClockT := cost, lastClockM := cost / 4
           accesses := s.accesses ++ xs, bus := s.bus.afterAll xs }

theorem State.transfer_frame (s : State) (pc sp : Word) (cost : Nat) (xs : List Access) :
    Frame [] [] [] s (s.transfer pc sp cost xs) :=
  .of_eq _ _ _ (fun _ _ => rfl) rfl rfl (Bus.afterAll_map _ _) rfl

theorem State.transfer_ends (s : State) (pc sp : Word) (cost : Nat) (xs : List Access) :
    Ends s (s.transfer pc sp cost xs) pc cost xs := ⟨rfl, ⟨rfl, rfl⟩, rfl, rfl⟩

theorem State.clk_eq_transfer (s : State) (cost : Nat) : s.clk cost = s.transfer s.pc s.sp cost [] := by
  simp [State.clk, State.transfer]

theorem State.setPC_clk_eq_transfer (s : State) (pc : Word) (cost : Nat) :
    (s.setPC pc).clk cost = s.transfer pc s.sp cost [] := (s.setPC pc).clk_eq_transfer cost

theorem State.skip_clk_eq_transfer (s : State) (n : Word) (cost : Nat) :
    (s.skip n).clk cost = s.transfer (s.pc + n) s.sp cost [] := s.setPC_clk_eq_transfer (s.pc + n) cost

theorem State.operand16_setPC_clk_eq_transfer (s : State) (a16 : Word) (cost : Nat) :
    ((s.operand16 a16).setPC a16).clk cost = s.transfer a16 s.sp cost (wordReads s.pc a16) := by
  simp [State.operand16, State.issued, State.setPC, State.clk, State.transfer, wordReads]

theorem State.popPC_clk_eq_transfer (s : State) (cost : Nat) :
    s.popPC.clk cost = s.transfer s.pop16.1 (s.sp + 2#16) cost (s.wordReadsAt s.sp) := by
  rw [State.popPC_eq]
  rfl

/-- A conditional form meets a claim if it does so either way. -/
theorem exec_of_conditional {f : Form} {cc : Cond} {s taken skipped : State} {P : State → Prop}
    (h : execForm f s = if s.cond cc then .next taken else .next skipped) (ht : s.cond cc = true → P taken)
    (hs : ¬s.cond cc = true → P skipped) : ∃ t, exec f.instr s = .next t ∧ P t := by
  rw [exec_instr, h]
  by_cases hc : s.cond cc = true
  · exact ⟨taken, if_pos hc, ht hc⟩
  · exact ⟨skipped, if_neg hc, hs hc⟩

/-- The target of a relative jump on integers: `PC` after the displacement plus the displacement (log 17). -/
theorem branchTarget_toNat (pc : Word) (r8 : Byte) :
    ((pc + 1#16 + sext16 r8).toNat : Int) = ((pc.toNat : Int) + 1 + r8.toInt) % 65536 := by
  have hnext : (pc + 1#16).toNat = (pc.toNat + 1) % 65536 := BitVec.toNat_add pc 1#16
  rw [word_add_toNat_eq_toInt, sext16_toInt, hnext]
  omega

/-- A transfer that leaves `SP`. -/
theorem State.transfer_keepsSP (s : State) (pc : Word) (cost : Nat) (xs : List Access) :
    Frame [] [] [] s (s.transfer pc s.sp cost xs) ∧ KeepsSystem s (s.transfer pc s.sp cost xs) ∧
      Ends s (s.transfer pc s.sp cost xs) pc cost xs :=
  ⟨s.transfer_frame _ _ _ _, ⟨rfl, rfl⟩, s.transfer_ends _ _ _ _⟩

/-- A relative jump is such a transfer. -/
theorem State.branchRel_clk_keepsSP (s : State) (r8 : Byte) (cost : Nat) :
    Frame [] [] [] s ((s.branchRel r8).clk cost) ∧ KeepsSystem s ((s.branchRel r8).clk cost) ∧
      (((s.branchRel r8).clk cost).pc.toNat : Int) = ((s.pc.toNat : Int) + 1 + r8.toInt) % 65536 ∧
      Ends s ((s.branchRel r8).clk cost) ((s.branchRel r8).clk cost).pc cost [.read s.pc r8] := by
  obtain ⟨hframe, hsys, hends⟩ := s.transfer_keepsSP (s.pc + 1#16 + sext16 r8) cost [.read s.pc r8]
  exact ⟨hframe, hsys, branchTarget_toNat s.pc r8, hends⟩

/-- Settles O52: every jump is a transfer that leaves `SP`; a conditional one is the jump or the skip of its operand. -/
theorem jumps : Obligations.Jumps := by
  intro s
  have habs (a16 : Word) := s.operand16_setPC_clk_eq_transfer a16 16 ▸ s.transfer_keepsSP a16 16 (wordReads s.pc a16)
  refine ⟨fun a16 => ⟨_, rfl, habs a16⟩, ⟨_, rfl, ?_⟩, fun r8 => ⟨_, rfl, s.branchRel_clk_keepsSP r8 12⟩,
    fun cc a16 => exec_of_conditional (f := .jpC cc a16) rfl (fun hc => ?_) (fun hc => ?_),
    fun cc r8 => exec_of_conditional (f := .jrC cc r8) rfl (fun hc => ?_) (fun hc => ?_)⟩
  · rw [State.setPC_clk_eq_transfer]
    exact s.transfer_keepsSP s.hl 4 []
  · rw [if_pos hc]
    exact habs a16
  · rw [if_neg hc, State.skip_clk_eq_transfer]
    exact s.transfer_keepsSP (s.pc + 2#16) 12 []
  · rw [if_pos hc]
    exact s.branchRel_clk_keepsSP r8 12
  · rw [if_neg hc, State.skip_clk_eq_transfer]
    exact s.transfer_keepsSP (s.pc + 1#16) 8 []

/-- Settles O54: a return is a transfer to the popped word; `RET cc` not taken reports its cost. -/
theorem returns : Obligations.Returns := by
  intro s
  refine ⟨⟨_, rfl, ?_⟩, fun cc => exec_of_conditional (f := .retC cc) rfl (fun hc => ?_) (fun hc => ?_)⟩
  · rw [State.popPC_clk_eq_transfer]
    exact ⟨rfl, rfl, s.transfer_frame _ _ _ _, s.pop16_toNat, s.transfer_ends _ _ _ _⟩
  · rw [if_pos hc, State.popPC_clk_eq_transfer]
    exact ⟨rfl, s.transfer_frame _ _ _ _, rfl, s.pop16_toNat, s.transfer_ends _ _ _ _⟩
  · rw [if_neg hc, State.clk_eq_transfer]
    exact ⟨rfl, s.transfer_frame _ _ _ _, rfl, s.transfer_ends _ _ _ _⟩

/-! Transfers that push a word (44_stack_control.md R230, R237, R238, R242). -/

/-- A word pushed, the accesses `xs` having been issued before; `PC` set and a cost reported. -/
def State.pushTransfer (s : State) (w pc : Word) (cost : Nat) (xs : List Access) : State :=
  { s.transfer pc (s.sp - 2#16) cost (xs ++ wordWrites (s.sp - 2#16) w) with mem := (s.push16 w).mem }

theorem State.push16_setPC_clk_eq_pushTransfer (s : State) (w pc : Word) (cost : Nat) :
    ((s.push16 w).setPC pc).clk cost = s.pushTransfer w pc cost [] := by
  rw [State.push16_eq, State.writeWord_eq]
  rfl

theorem State.callFrom_clk_eq_pushTransfer (s : State) (a16 : Word) (cost : Nat) :
    (s.callFrom a16).clk cost = s.pushTransfer (s.pc + 2#16) a16 cost (wordReads s.pc a16) := by
  rw [State.callFrom_eq]
  rfl

theorem State.pushTransfer_spec (s : State) (w pc : Word) (cost : Nat) (xs : List Access)
    (hwf : Memory.wf s.mem = true) :
    (s.pushTransfer w pc cost xs).sp = s.sp - 2#16 ∧ StoredWord s (s.pushTransfer w pc cost xs) (s.sp - 2#16) w ∧
      (s.pushTransfer w pc cost xs).ime = s.ime ∧ Frame [] [] s.pushAddrs s (s.pushTransfer w pc cost xs) ∧
      Ends s (s.pushTransfer w pc cost xs) pc cost (xs ++ wordWrites (s.sp - 2#16) w) := by
  have hstored : StoredWord s (s.push16 w) (s.sp - 2#16) w := .of_writeWord s (s.setSP (s.sp - 2#16)) _ w hwf rfl rfl
  have hwrites : WritesAt s.pushAddrs s (s.pushTransfer w pc cost xs) := .push (w := w) rfl
  exact ⟨rfl, .congr rfl hstored, rfl,
    ⟨fun _ _ => rfl, .of_eq _ rfl, hwrites.keepsMemory, Bus.afterAll_map _ _, rfl⟩, rfl, ⟨rfl, rfl⟩, rfl, rfl⟩

/-- Settles O49, under a name that tells it from the operation `pushPair`: a push after which `PC` stays. -/
theorem pushPair_holds : Obligations.PushPair := by
  intro rr s hwf
  have hpush : pushPair rr s = .next (s.pushTransfer (s.r16s rr) s.pc 16 []) :=
    congrArg _ (s.push16_setPC_clk_eq_pushTransfer (s.r16s rr) s.pc 16)
  exact ⟨_, (exec_instr (.push rr) s).trans hpush, s.pushTransfer_spec (s.r16s rr) s.pc 16 [] hwf⟩

/-- Settles O56: a push of `PC`, and the target fits a word. -/
theorem restarts : Obligations.Restarts := by
  intro n s hwf
  have hrst : restart n s = .next (s.pushTransfer s.pc (BitVec.ofNat 16 (8 * n.val)) 16 []) :=
    congrArg _ (s.push16_setPC_clk_eq_pushTransfer s.pc _ 16)
  have htarget : (BitVec.ofNat 16 (8 * n.val)).toNat = 8 * n.val := by
    rw [BitVec.toNat_ofNat]
    omega
  exact ⟨_, (exec_instr (.rst n) s).trans hrst, htarget, s.pushTransfer_spec s.pc _ 16 [] hwf⟩

/-- Settles O53: a call fetches its target and pushes the address behind it; `CALL cc` not taken skips its operand. -/
theorem calls : Obligations.Calls := by
  intro s hwf
  have hcall (a16 : Word) :=
    s.callFrom_clk_eq_pushTransfer a16 24 ▸ s.pushTransfer_spec (s.pc + 2#16) a16 24 (wordReads s.pc a16) hwf
  refine ⟨fun a16 => ⟨_, rfl, hcall a16⟩,
    fun cc a16 => exec_of_conditional (f := .callC cc a16) rfl (fun hc => ?_) (fun hc => ?_)⟩
  · obtain ⟨hsp, hstored, hime, hframe, hends⟩ := hcall a16
    rw [if_pos hc]
    exact ⟨hime, hsp, hstored, hframe, hends⟩
  · rw [if_neg hc, State.skip_clk_eq_transfer]
    exact ⟨rfl, rfl, s.transfer_frame _ _ _ _, s.transfer_ends _ _ _ _⟩

/-! POP (44_stack_control.md R231). -/

/-- Settles O50, under a name that tells it from the operation `popPair`: a pair view holds the popped word, `AF` but
for the low nibble. -/
theorem popPair_holds : Obligations.PopPair := by
  intro rr s
  have hexec : execForm (.pop rr) s = .next ((s.pop16.2.setR16s rr s.pop16.1).clk 12) := rfl
  have hf : ∀ o, Form.pop rr ≠ .prefixCB o := nofun
  have hissues : Issues s ((s.pop16.2.setR16s rr s.pop16.1).clk 12) (s.wordReadsAt s.sp) := by
    simp [Issues, State.pop16_state]
  refine ⟨_, (exec_instr (.pop rr) s).trans hexec, ?_, by simp, fun hrr => ⟨?_, ?_⟩, ?_, execForm_keepsRegs hf hexec,
    (execForm_writesAt hf hexec).keepsMemory, ⟨by simp, by simp⟩, execForm_ends hf rfl hexec hissues⟩
  · simp [State.pop16_eq]
  · rw [← State.pop16_toNat]
    exact congrArg BitVec.toNat (s.pop16.2.setR16s_r16s_same rr s.pop16.1 fun h => absurd h hrr)
  · exact .of_eq _ ((s.pop16.2.setR16s_f rr s.pop16.1 hrr).trans s.pop16_snd_f)
  · rintro rfl
    obtain ⟨hlo, _⟩ := s.readWord_bytes s.sp
    rw [← State.pop16_toNat, ← hi8_toNat, ← hlo]
    exact ⟨rfl, rfl⟩

/-- Reading a word looks at memory and at the bus. -/
theorem State.readWord_fst_congr {s t : State} (hm : t.mem = s.mem) (hb : t.bus = s.bus) (a : Word) :
    (t.readWord a).1 = (s.readWord a).1 := by
  simp only [State.readWord_eq, State.issued, State.answer, hm, hb]

/-- A word pushed where the bus accepts it is popped into the pair, and `SP` is back. -/
theorem exec_pop_of_push16 (rr : StackPair) {s t : State} {w : Word} (hwf : Memory.wf s.mem = true)
    (ha : s.accepts (s.sp - 2#16) = true) (ha1 : s.accepts (s.sp - 2#16 + 1#16) = true)
    (hlow : rr = .AF → lo8 w &&& 0x0F#8 = 0#8) (hm : t.mem = (s.push16 w).mem) (hb : t.bus = (s.push16 w).bus)
    (hsp : t.sp = s.sp - 2#16) : ∃ u, exec (Instr.popOf rr) t = .next u ∧ u.r16s rr = w ∧ u.sp = s.sp := by
  have hpop : t.pop16.1 = w := by
    obtain ⟨hread, _⟩ := wordWrittenIsReadBack (s.setSP (s.sp - 2#16)) (s.sp - 2#16) w hwf
    obtain ⟨hword, _⟩ := hread ha ha1
    rw [State.pop16_eq, hsp]
    exact (State.readWord_fst_congr hm hb _).trans hword
  refine ⟨_, exec_instr (.pop rr) t, ?_, ?_⟩
  · exact hpop ▸ State.setR16s_r16s_same _ rr _ (hpop.symm ▸ hlow)
  · simp [State.pop16_eq, hsp]

/-- Settles O51: the word popped is the word pushed, and the low nibble of a pushed `F` is zero. -/
theorem pushThenPopRestores : Obligations.PushThenPopRestores := by
  intro rr s t a b c d e f h l hinv ha ha1 hpush
  obtain ⟨hzero, _, _, hwf⟩ := hinv
  have hlow : rr = .AF → lo8 (s.r16s rr) &&& 0x0F#8 = 0#8 := by
    rintro rfl
    exact (congrArg (· &&& 0x0F#8) (lo8_mkWord s.a s.f)).trans hzero
  have ht : execForm (.push rr) s = .next t := (exec_instr (.push rr) s).symm.trans hpush
  cases ht
  exact exec_pop_of_push16 rr hwf ha ha1 hlow rfl rfl rfl

end Sys2Proof.Machine

/-! PROOFS of the family 45_system_unused.md. Each of its instructions is one of three shared operations; first what each
operation does, then the statement. -/
namespace Sys2Proof.Machine

/-- Reporting a cost moves no `PC` and issues no access. -/
theorem State.clk_ends (s : State) (cost : Nat) : Ends s (s.clk cost) s.pc cost [] := by
  rw [State.clk_eq_transfer]
  exact s.transfer_ends s.pc s.sp cost []

/-- `EI` and `DI` change the interrupt enable alone. -/
theorem setInterruptEnable_spec (b : Bool) (s : State) :
    ∃ t, setInterruptEnable b s = .next t ∧ t.ime = b ∧ t.sp = s.sp ∧ Frame [] [] [] s t ∧ Ends s t s.pc 4 [] :=
  have hframe : Frame [] [] [] s ((s.setIME b).clk 4) := .of_eq _ _ _ (fun _ _ => rfl) rfl rfl rfl rfl
  ⟨_, rfl, rfl, rfl, hframe, (s.setIME b).clk_ends 4⟩

/-- `NOP`, `HALT` and `STOP` are transfers to where `PC` already is. -/
theorem costOnly_spec (s : State) :
    ∃ t, costOnly s = .next t ∧ Frame [] [] [] s t ∧ KeepsSystem s t ∧ Ends s t s.pc 4 [] :=
  ⟨_, rfl, s.clk_eq_transfer 4 ▸ s.transfer_keepsSP s.pc 4 []⟩

/-- An unused opcode changes the warning strobe alone (60_exceptions.md R332), so its frame is stated part by part. -/
theorem unusedNoop_spec (s : State) :
    ∃ t, unusedNoop s = .next t ∧ KeepsRegs [] s t ∧ KeepsFlags [] s t ∧ KeepsMemory [] s t ∧
      t.bus.map = s.bus.map ∧ t.unusedWarn = true ∧ KeepsSystem s t ∧ Ends s t s.pc 4 [] :=
  have hends : Ends s ({ s with unusedWarn := true }.clk 4) s.pc 4 [] := State.clk_ends { s with unusedWarn := true } 4
  ⟨_, rfl, fun _ _ => rfl, .of_eq _ rfl, .of_eq _ rfl, rfl, rfl, ⟨rfl, rfl⟩, hends⟩

/-- Settles O57: every instruction named is one of the three operations. -/
theorem systemAndUnusedOpcodes : Obligations.SystemAndUnusedOpcodes := by
  intro s
  refine ⟨setInterruptEnable_spec true s, setInterruptEnable_spec false s, fun i hi => ?_, fun u => ?_⟩
  · fin_cases hi <;> exact costOnly_spec s
  · rw [show exec (Instr.unusedOf u) s = unusedNoop s from exec_instr (.unused u) s]
    exact unusedNoop_spec s

end Sys2Proof.Machine

/-! PROOFS of the family 46_extended_cb.md. First what the forms that replace their operand leave (all but `BIT`), and
the bits of a byte; then the statements. -/
namespace Sys2Proof.Machine

/-! An operand replaced (46_extended_cb.md R281). -/

/-- An operand read and written back, with `F` as given: the state each form but `BIT` leaves. -/
def State.replaceOpnd (s : State) (o : Opnd8) (v f : Byte) : State :=
  (((s.readOpnd o).2.writeOpnd o v).setF f).clk (opndCost 8 16 o)

theorem execForm_rot (op : RotOp) (o : Opnd8) (s : State) :
    execForm (.rot op o) s =
      .next (s.replaceOpnd o (rotate8 op (s.opnd o) (s.flag .C)).1
        (s.setFlags (decide ((rotate8 op (s.opnd o) (s.flag .C)).1 = 0#8)) false false
          (rotate8 op (s.opnd o) (s.flag .C)).2).f) := by
  cases o with
  | reg r => cases r <;> rfl
  | atHL => rfl

theorem execForm_res (n : Fin 8) (o : Opnd8) (s : State) :
    execForm (.res n o) s = .next (s.replaceOpnd o (resBit n (s.opnd o)) s.f) := by
  cases o with
  | reg r => cases r <;> rfl
  | atHL => rfl

theorem execForm_set (n : Fin 8) (o : Opnd8) (s : State) :
    execForm (.set n o) s = .next (s.replaceOpnd o (setBit n (s.opnd o)) s.f) := by
  cases o with
  | reg r => cases r <;> rfl
  | atHL => rfl

theorem Form.cost_rot (op : RotOp) (o : Opnd8) (s : State) : (Form.rot op o).cost s = opndCost 8 16 o := by
  cases o <;> rfl
theorem Form.cost_bit (n : Fin 8) (o : Opnd8) (s : State) : (Form.bit n o).cost s = opndCost 8 16 o := by
  cases o <;> rfl
theorem Form.cost_res (n : Fin 8) (o : Opnd8) (s : State) : (Form.res n o).cost s = opndCost 8 16 o := by
  cases o <;> rfl
theorem Form.cost_set (n : Fin 8) (o : Opnd8) (s : State) : (Form.set n o).cost s = opndCost 8 16 o := by
  cases o <;> rfl

theorem State.replaceOpnd_written (s : State) (o : Opnd8) (v f : Byte) (hwf : Memory.wf s.mem = true) :
    Written s (s.replaceOpnd o v f) o v :=
  .congr (by simp [State.replaceOpnd]) (by simp [State.replaceOpnd]) (.readOpnd_writeOpnd s o v hwf)

theorem State.replaceOpnd_issues (s : State) (o : Opnd8) (v f : Byte) :
    Issues s (s.replaceOpnd o v f) (s.opndReads o ++ s.opndWrites o v) :=
  .congr (by simp [State.replaceOpnd]) (by simp [State.replaceOpnd]) (.readOpnd_writeOpnd s o v)

/-- The flags are those of the state `F` is taken from. -/
theorem State.replaceOpnd_flag (s u : State) (o : Opnd8) (v : Byte) (fl : Flag) :
    (s.replaceOpnd o v u.f).flag fl = u.flag fl := rfl

/-! The bits of a byte (46_extended_cb.md R307, R309, R311). -/

/-- The mask of `RES` and `SET` has the one bit. -/
theorem bitMask_getLsbD (n : Fin 8) (k : Nat) : (1#8 <<< n.val).getLsbD k = decide (k = n.val) := by
  rw [← BitVec.twoPow_eq, BitVec.getLsbD_twoPow]
  simp [eq_comm]

theorem resBit_getLsbD (n : Fin 8) (v : Byte) (k : Nat) :
    (resBit n v).getLsbD k = if k = n.val then false else v.getLsbD k := by
  rw [resBit, BitVec.getLsbD_and, BitVec.getLsbD_not, bitMask_getLsbD]
  by_cases hk : k = n.val
  · simp [hk]
  · simpa [hk] using v.lt_of_getLsbD

theorem setBit_getLsbD (n : Fin 8) (v : Byte) (k : Nat) :
    (setBit n v).getLsbD k = if k = n.val then true else v.getLsbD k := by
  rw [setBit, BitVec.getLsbD_or, bitMask_getLsbD]
  by_cases hk : k = n.val <;> simp [hk]

/-- The complement of a bit, on numbers. -/
theorem not_getLsbD_eq (v : Byte) (n : Nat) : (!v.getLsbD n) = decide (v.toNat / 2 ^ n % 2 = 0) := by
  rw [BitVec.getLsbD, Nat.testBit_eq_decide_div_mod_eq, ← decide_not, decide_eq_decide]
  omega

/-- Settles O58: the operand is replaced by the operation's result, and all four flags are written. -/
theorem extendedRotatesAndShifts : Obligations.ExtendedRotatesAndShifts := by
  intro op o s hwf
  have h := execForm_rot op o s
  refine ⟨_, _, _, (exec_instr (.rot op o) s).trans h, rotate8_claim op (s.opnd o) (s.flag .C),
    s.replaceOpnd_written o _ _ hwf, ?_, ?_⟩
  · simp only [FlagsAre, State.replaceOpnd_flag, State.setFlags_flag, ← BitVec.toNat_inj,
      BitVec.toNat_zero, and_self]
  · rw [← Form.cost_rot op o s]
    exact execForm_plain (f := .rot op o) rfl h (s.replaceOpnd_issues o _ _)

/-- Settles O59: the operand is read, and three flags are written. -/
theorem bitTest : Obligations.BitTest := by
  intro n o s
  have h : execForm (.bit n o) s =
      .next (((s.readOpnd o).2.setZNH (!(s.readOpnd o).1.getLsbD n.val) false true).clk (testCost o)) := rfl
  refine ⟨_, (exec_instr (.bit n o) s).trans h, ?_, ?_⟩
  · simp only [FlagsAre, State.clk_flag, State.setZNH_flag, State.readOpnd_fst, State.readOpnd_snd_flag,
      not_getLsbD_eq, and_self]
  · rw [← Form.cost_bit n o s]
    exact execForm_plain (f := .bit n o) rfl h (.congr (by simp) (by simp) (.readOpnd s o))

/-- Settles O60: the operand is replaced by itself with one bit written, and `F` by itself. -/
theorem bitResetAndSet : Obligations.BitResetAndSet := by
  intro n o s hwf
  have hres := execForm_res n o s
  have hset := execForm_set n o s
  refine ⟨⟨_, _, (exec_instr (.res n o) s).trans hres, s.replaceOpnd_written o _ _ hwf, resBit_getLsbD n _, ?_⟩,
    ⟨_, _, (exec_instr (.set n o) s).trans hset, s.replaceOpnd_written o _ _ hwf, setBit_getLsbD n _, ?_⟩⟩
  · rw [← Form.cost_res n o s]
    exact execForm_plain (f := .res n o) rfl hres (s.replaceOpnd_issues o _ _)
  · rw [← Form.cost_set n o s]
    exact execForm_plain (f := .set n o) rfl hset (s.replaceOpnd_issues o _ _)

end Sys2Proof.Machine

/-! PROOFS of the family 60_exceptions.md: the interrupt enable commutes with every instruction that does not write it, so
none of them reads it or leaves it changed; then `RETI`. -/
namespace Sys2Proof.Machine

/-! The interrupt enable (60_exceptions.md R322). Writing it commutes with every update of the rest of the state;
stated here for the updates that go by an operand or by computed flags. -/

section CarriesInterruptEnable
variable (s : State) (x : Bool)

@[simp] theorem State.setIME_opnd (o : Opnd8) : (s.setIME x).opnd o = s.opnd o := by cases o <;> simp [State.opnd]

@[simp] theorem State.setIME_clk (n : Nat) : (s.setIME x).clk n = (s.clk n).setIME x := rfl
@[simp] theorem State.setIME_setF (v : Byte) : (s.setIME x).setF v = (s.setF v).setIME x := rfl
@[simp] theorem State.setIME_setZNH (z n h : Bool) : (s.setIME x).setZNH z n h = (s.setZNH z n h).setIME x := rfl
@[simp] theorem State.setIME_setFlags (z n h c : Bool) :
    (s.setIME x).setFlags z n h c = (s.setFlags z n h c).setIME x := rfl
@[simp] theorem State.setIME_operand8 (v : Byte) : (s.setIME x).operand8 v = (s.operand8 v).setIME x := rfl

@[simp] theorem State.setIME_readOpnd_snd (o : Opnd8) : ((s.setIME x).readOpnd o).2 = (s.readOpnd o).2.setIME x := by
  cases o <;> rfl

@[simp] theorem State.setIME_writeOpnd (o : Opnd8) (v : Byte) :
    (s.setIME x).writeOpnd o v = (s.writeOpnd o v).setIME x := by
  cases o with
  | reg r => cases r <;> rfl
  | atHL => rfl

@[simp] theorem State.setIME_writeBack (o : Opnd8) (v : Byte) (z n h : Bool) :
    (s.setIME x).writeBack o v z n h = (s.writeBack o v z n h).setIME x := by
  simp [State.writeBack]

@[simp] theorem State.setIME_replaceOpnd (o : Opnd8) (v f : Byte) :
    (s.setIME x).replaceOpnd o v f = (s.replaceOpnd o v f).setIME x := by
  simp [State.replaceOpnd]

@[simp] theorem State.setIME_aluAcc (op : AluOp) (v : Byte) :
    (s.setIME x).aluAcc op v = (s.aluAcc op v).setIME x := by
  rw [State.aluAcc_eq, State.aluAcc_eq]
  rfl

end CarriesInterruptEnable

/-- No form but `EI`, `DI` and `RETI` sees which value the interrupt enable holds: it carries that value along. -/
theorem execForm_setIME {f : Form} {s t : State} (hf : ∀ o, f ≠ .prefixCB o) (hi : f ∉ [Form.ei, .di, .reti])
    (h : execForm f s = .next t) (b : Bool) : execForm f (s.setIME b) = .next (t.setIME b) := by
  cases f with
  | prefixCB o => exact absurd rfl (hf o)
  | ei | di | reti => exact absurd (by simp) hi
  | inc8 o => rw [execForm_inc8] at h ⊢; cases h; simp
  | dec8 o => rw [execForm_dec8] at h ⊢; cases h; simp
  | rot op o => rw [execForm_rot] at h ⊢; cases h; simp
  | res n o => rw [execForm_res] at h ⊢; cases h; simp
  | set n o => rw [execForm_set] at h ⊢; cases h; simp
  | alu op o => rw [execForm_alu] at h ⊢; cases h; simp
  | aluI op d8 => cases h; simp [execForm, aluImm]
  | bit n o => cases h; simp [execForm, bitOpnd]
  | ldRR d _ | ldRI d _ | ldRM d => cases d <;> cases h <;> rfl
  | ldPI rr _ | inc16 rr | dec16 rr | addHL rr | pop rr => cases rr <;> cases h <;> rfl
  | stAcc m | ldAcc m => cases m <;> cases h <;> rfl
  | jpC cc _ | jrC cc _ | callC cc _ | retC cc =>
    obtain ⟨hc, rfl⟩ | ⟨hc, rfl⟩ := next_of_ite h
    · exact if_pos hc
    · exact if_neg hc
  | _ => cases h; rfl

/-- The extended forms do not write the interrupt enable. -/
theorem extForm_not_mem_ei_di_reti (op2 : Byte) : extForm op2 ∉ [Form.ei, .di, .reti] := by
  obtain ⟨_, _, h⟩ | ⟨_, _, h⟩ | ⟨_, _, h⟩ | ⟨_, _, h⟩ := extForm_cases op2 <;> rw [h] <;> simp

/-- An instruction is one of the three as its form is. -/
theorem form_not_mem_ei_di_reti {i : Instr} (hi : i ∉ [Instr.ei, .di, .reti]) : i.form ∉ [Form.ei, .di, .reti] :=
  fun hf => hi (instr_form i ▸ List.mem_map_of_mem (f := Form.instr) hf)

/-- No instruction but the three sees the value: the 0xCB entry fetches its second byte and runs an extended form. -/
theorem exec_setIME {i : Instr} {s t : State} (hi : i ∉ [Instr.ei, .di, .reti]) (h : exec i s = .next t) (b : Bool) :
    exec i (s.setIME b) = .next (t.setIME b) := by
  rw [exec_eq_execForm]
  refine exec_next_induction
    (fun f s t => f ∉ [Form.ei, .di, .reti] → execForm f (s.setIME b) = .next (t.setIME b))
    (fun f s t hf h hi => execForm_setIME hf hi h b) (fun o s t k _ => ?_) i s t h (form_not_mem_ei_di_reti hi)
  exact (extTable_eq o _).trans (k (extForm_not_mem_ei_di_reti o))

/-- So every such instruction leaves the flag: writing its own value to it beforehand changes nothing. -/
theorem exec_ime {i : Instr} {s t : State} (hi : i ∉ [Instr.ei, .di, .reti]) (h : exec i s = .next t) :
    t.ime = s.ime := by
  have hself : (.next t : Result) = .next (t.setIME s.ime) := h.symm.trans (exec_setIME hi h s.ime)
  rw [Host.Outcome.next.inj hself, State.setIME_ime]

/-- Settles O16: the three overwrite the flag, so its old value is gone; every other instruction carries it along. -/
theorem interruptEnableWrittenByThreeAndReadByNone : Obligations.InterruptEnableWrittenByThreeAndReadByNone := by
  refine ⟨fun s => ⟨⟨_, rfl, rfl⟩, ⟨_, rfl, rfl⟩, ⟨_, rfl, rfl⟩⟩, fun i s hi => ?_, fun i s b hi => ?_⟩
  · obtain ⟨t, h⟩ := exec_completes i s
    exact ⟨t, h, exec_ime hi h, exec_setIME hi h⟩
  · fin_cases hi <;> rfl

/-! The return from an interrupt (60_exceptions.md R325). -/

/-- `RETI` is the transfer `RET` is, with the flag set. -/
theorem exec_reti (s : State) :
    exec .reti s = .next ((s.transfer s.pop16.1 (s.sp + 2#16) 16 (s.wordReadsAt s.sp)).setIME true) := by
  rw [← State.popPC_clk_eq_transfer]
  rfl

/-- Settles O55: a transfer keeps registers, flags and memory, and so does setting the flag. -/
theorem returnFromInterrupt : Obligations.ReturnFromInterrupt := by
  intro s
  have hframe := s.transfer_frame s.pop16.1 (s.sp + 2#16) 16 (s.wordReadsAt s.sp)
  have hends := s.transfer_ends s.pop16.1 (s.sp + 2#16) 16 (s.wordReadsAt s.sp)
  exact ⟨⟨_, exec_reti s, rfl, s.pop16_toNat, rfl, rfl, hframe, hends⟩, _, rfl, s.popPC_ime⟩

end Sys2Proof.Machine

/-! PROOFS of the family 70_reset_and_hazards.md. First reset; then the flag traps: what an instruction outside a row of
10_state.md R25 leaves alone, and the Z of the rotates, without a premise on memory. -/
namespace Sys2Proof.Machine

/-- Settles O2: reset is the record's own fields over the memory and the bus of the state. -/
theorem resetIsFixed : Obligations.ResetIsFixed :=
  fun _ _ => ⟨⟨rfl, rfl, rfl, rfl, rfl, rfl, rfl, rfl⟩, rfl, rfl, rfl, ⟨rfl, rfl⟩, rfl, rfl, rfl⟩

/-! Flags outside an instruction's row (70_reset_and_hazards.md R358). -/

/-- An instruction completes and leaves each flag outside its row. -/
theorem exec_leaves_flag {i : Instr} {fl : Flag} (hfl : fl ∉ i.form.handler.flagsWritten) (s : State) :
    ∃ t, exec i s = .next t ∧ t.flag fl = s.flag fl := by
  obtain ⟨t, h⟩ := exec_completes i s
  obtain ⟨hkeeps, _⟩ := flagsChangeOnlyWhereTheTableSays i s t h
  exact ⟨t, h, hkeeps fl hfl⟩

/-- A form that writes no flag completes and leaves all of `F`. -/
theorem exec_leaves_f {f : Form} (hf : ∀ o, f ≠ .prefixCB o) (hw : f.flagsWritten = []) (s : State) :
    ∃ t, exec f.instr s = .next t ∧ t.f = s.f := by
  obtain ⟨t, h⟩ := exec_completes f.instr s
  exact ⟨t, h, execForm_f hf hw ((exec_instr f s).symm.trans h)⟩

/-! Z of the rotates (70_reset_and_hazards.md R358). -/

/-- Z of the accumulator rotates is 0, whatever the result. -/
theorem exec_accumulatorRotate_flagZ (s : State) {i : Instr} (hi : i ∈ [Instr.rlca, .rla, .rrca, .rra]) :
    ∃ t, exec i s = .next t ∧ t.flag .Z = false := by
  obtain ⟨p, hp, rfl⟩ : ∃ p ∈ [(Instr.rlca, RotOp.rlc), (.rla, .rl), (.rrca, .rrc), (.rra, .rr)], p.1 = i :=
    List.mem_map.mp hi
  obtain ⟨t, h, _, ⟨hz, _⟩, _⟩ := accumulatorRotates s p hp
  exact ⟨t, h, hz⟩

/-- An extended rotate or shift replaces its operand by a byte and leaves whether that byte is zero in Z; memory need
not be canonical. -/
theorem exec_rot_flagZ (op : RotOp) (o : Opnd8) (s : State) :
    ∃ res f, exec (Instr.rotOf op o) s = .next (s.replaceOpnd o res f) ∧
      (s.replaceOpnd o res f).flag .Z = decide (res.toNat = 0) := by
  refine ⟨_, _, (exec_instr (.rot op o) s).trans (execForm_rot op o s), ?_⟩
  simp only [State.replaceOpnd_flag, State.setFlags_flag, ← BitVec.toNat_inj, BitVec.toNat_zero]

/-- A register operand replaced holds the byte. -/
theorem State.replaceOpnd_r8 (s : State) (r : Reg8) (v f : Byte) : (s.replaceOpnd (.reg r) v f).r8 r = v := by
  cases r <;> rfl

/-- Settles O24: INC, DEC, ADD HL, CPL, SCF and CCF by their rows; Z of the rotates is the constant 0, or is computed from
the byte written. -/
theorem flagTrapsOfTheInstructionSet : Obligations.FlagTrapsOfTheInstructionSet := by
  intro s
  refine ⟨fun rr => exec_leaves_f (f := .inc16 rr) (by simp) rfl s,
    fun rr => exec_leaves_f (f := .dec16 rr) (by simp) rfl s, fun rr => ?addHL, fun i hi => ?complements,
    fun i hi => exec_accumulatorRotate_flagZ s hi, fun op r => ?register, fun op => ?atHL⟩
  case addHL =>
    refine exec_leaves_flag ?_ s
    cases rr <;> decide
  case complements =>
    refine exec_leaves_flag ?_ s
    fin_cases hi <;> decide
  case register =>
    obtain ⟨res, f, h, hz⟩ := exec_rot_flagZ op (.reg r) s
    exact ⟨_, h, by rw [hz, State.replaceOpnd_r8]⟩
  case atHL =>
    obtain ⟨res, f, h, hz⟩ := exec_rot_flagZ op .atHL s
    obtain ⟨haccesses, _⟩ := s.replaceOpnd_issues .atHL res f
    exact ⟨_, h, _, res, haccesses, hz⟩

end Sys2Proof.Machine
